-- ==== Sys2Proof/Word.lean ====
section
/-! DEFINITION. The word types of the SC4: what the manual treats as bits (R207, R210). Counts, times, angles and ranges
are natural numbers or integers, as the manual computes them (00_scope, Arithmetic). -/

namespace Sys2Proof

/-- One byte of a command frame, a report record, a site line frame, an echo set transfer or a store row (R207). -/
abbrev Byte := BitVec 8

/-- One word of the report port (R210). -/
abbrev Word16 := BitVec 16

/-- A set of cameras 0..3: bit n stands for camera n (R209). -/
abbrev CameraSet := BitVec 4

end Sys2Proof
end

