-- ==== Sys2Proof/Syntax.lean ====
section
/-! DEFINITION. The commands of the SC4: one constructor per row of spec/opcode_table.json, in the table's order, with the
row's operands. A row is an event the part takes whole: an input of its pins, a frame, or the expiry of one of its timers. -/

namespace Sys2Proof

/-- The two encoders of the Angle Unit (chapter 1). -/
inductive Encoder where
  | mirror
  | head
deriving DecidableEq, Repr

/-- The raw levels of the part's level inputs at one moment: what a reset finds as it ends (R18), and the levels of the
carrier-sense and in-position inputs. -/
structure InputLevels where
  mirrorA : Bool
  mirrorB : Bool
  mirrorIndex : Bool
  headA : Bool
  headB : Bool
  headIndex : Bool
  carrierSense : Bool
  inPosition : Bool
deriving DecidableEq, Repr, Inhabited

/-- Bytes of an echo set transfer (R38, R219), and whether they begin with its header or continue a transfer whose header came
before. A whole transfer in one command begins with its header. Log entry 26. -/
structure EchoTransfer where
  header : Bool
  bytes : List Byte
deriving DecidableEq, Repr

/-- One entry of a CONFIGURE payload (R209): a setting number and a signed 32-bit value. -/
structure SettingEntry where
  number : Byte
  value : BitVec 32
deriving DecidableEq, Repr

/-- The commands of the block. Each constructor's docstring names the row's rule. -/
inductive Instr where
  /-- POWER_ON (R206), with the raw input levels present as the reset ends. -/
  | powerOn (levels : InputLevels)
  /-- RESET_LINE (R204), with the raw input levels present as the reset ends. -/
  | resetLine (levels : InputLevels)
  /-- ENCODER_EDGE (R1): a pair of raw levels has been stable for 40 ns. -/
  | encoderEdge (enc : Encoder) (a b : Bool)
  /-- ENCODER_INDEX (R4): a level of the index input has been stable for 40 ns; a rise is an index. -/
  | encoderIndex (enc : Encoder) (level : Bool)
  /-- ABSENCE_TIMER_EXPIRY (R16). -/
  | absenceTimerExpiry
  /-- LOCAL_TIME_LIMIT (R20). -/
  | localTimeLimit
  /-- SCHEDULED_INSTANT (R23). -/
  | scheduledInstant
  /-- FIRE_PULSE_END (R31). -/
  | firePulseEnd
  /-- EMIT_EXPIRY (R33). -/
  | emitExpiry
  /-- ECHO_SET (R38). -/
  | echoSet (transfer : EchoTransfer)
  /-- FINISH_REPORT (R108). -/
  | finishReport
  /-- ATTEMPT_LIMIT_EXPIRY (R107). -/
  | attemptLimitExpiry
  /-- IN_POSITION_RISE (R102). -/
  | inPositionRise
  /-- HEAD_FAULT_TIMER_EXPIRY (R103). -/
  | headFaultTimerExpiry
  /-- SETTLE_END (R82). -/
  | settleEnd
  /-- GRANT_TIMEOUT (R85). -/
  | grantTimeout
  /-- CAMERA_EXPOSURE_END (R86) of one camera. -/
  | cameraExposureEnd (camera : Nat)
  /-- PHOTO_RELEASE (R88). -/
  | photoRelease
  /-- CARRIER_SENSE_RISE (R128). -/
  | carrierSenseRise
  /-- CARRIER_SENSE_FALL (R128, R135). -/
  | carrierSenseFall
  /-- ACCESS_TIMER_EXPIRY (R129). -/
  | accessTimerExpiry
  /-- SENDING_END (R126). -/
  | sendingEnd
  /-- JAM_TIMER_EXPIRY (R130). -/
  | jamTimerExpiry
  /-- BEACON_TIMER_EXPIRY (R131). -/
  | beaconTimerExpiry
  /-- LEAVE_TIMER_EXPIRY (R133). -/
  | leaveTimerExpiry
  /-- SITE_FRAME_RECEIVED (R136): a complete site line frame, as received (R217). -/
  | siteFrameReceived (station kind : Byte) (payload : List Byte) (check : Word16)
  /-- BYTE_GAP_EXPIRY (R135). -/
  | byteGapExpiry
  /-- AGE_TIMER_EXPIRY (R143) of one station's entry. -/
  | ageTimerExpiry (station : Nat)
  /-- JOIN_TIMER_EXPIRY (R146). -/
  | joinTimerExpiry
  /-- QUIET_WINDOW_EXPIRY (R157) of one station's window. -/
  | quietWindowExpiry (station : Nat)
  /-- REPORT_WORD_TAKEN (R185): a tick with ACCEPT high. -/
  | reportWordTaken
  /-- LANE_BYTE_DROPPED (R190): a byte clocked while READY is low and no frame is in reception. -/
  | laneByteDropped
  /-- LANE_GAP_EXPIRY (R190). -/
  | laneGapExpiry
  /-- BAD_FRAME (R191): the bytes of a complete command frame that is faulty. -/
  | badFrame (frame : List Byte)
  /-- CONFIGURE (R194), with the entries of its payload (R209). -/
  | configure (entries : List SettingEntry)
  /-- LOAD_TABLE (R201), with the table code and the contents as sent (R209). -/
  | loadTable (code : Byte) (contents : List Byte)
  /-- READ_TABLE (R199). -/
  | readTable (code : Byte)
  /-- CAL_STORE (R203). -/
  | calStore (row : Byte)
  /-- WRITE_COMPLETION (R203). -/
  | writeCompletion
  /-- CAL_RELOAD (R202). -/
  | calReload (row : Byte)
  /-- PLAN_WRITE (R96), with the start index and the 23-byte records as sent (R209). -/
  | planWrite (start : Byte) (records : List (List Byte))
  /-- PLAN_READ (R199). -/
  | planRead (start count : Byte)
  /-- START (R196). -/
  | start (index : Byte)
  /-- STOP (R197). -/
  | stop
  /-- PAUSE (R114). -/
  | pause
  /-- CONTINUE (R115). -/
  | continueRun
  /-- STATUS (R199). -/
  | status
  /-- PEERS (R151). -/
  | peers
  /-- PHOTOS (R199). -/
  | photos
  /-- RESET (R205), with the raw input levels present as the reset ends. -/
  | reset (levels : InputLevels)
  /-- SITE_BYTE_RECEIVED (R135): a byte of the receive line and whether its stop bit was at the idle level. -/
  | siteByteReceived (byte : Byte) (stopBitOk : Bool)
  /-- LANE_BYTE_RECEIVED (R190). -/
  | laneByteReceived (byte : Byte)
  /-- POWER_LOSS (R204). -/
  | powerLoss
deriving DecidableEq, Repr

end Sys2Proof
end

