-- ==== Sys2Proof/Config.lean ====
section
/-! DEFINITION. The free values: what the manual leaves open and the part nevertheless does. None has a body, so no proof
can see what it is; each is applied to the plain counter State.draws, which moves on at every use, or, for the quotient that has
no value, to what its angle request finds. -/

namespace Sys2Proof.Config

/-- Whether, at a STOP that finds a line attempt open, PWK's end notice of the attempt reaches RGU before the end of run
empties RGU's list (R64 names both orders and leaves the choice open). Log entry 5. -/
opaque freeStopOrder : Nat → Bool

/-- Whether, where PWK abandons an open attempt whose shots RGU still holds, the end notice reaches RGU, which flushes those
shots and lets PTA judge the held shot, before PWK places LINE_ABANDONED (R62 and R110 name both orders and leave the choice
open). Log entry 36. -/
opaque freeAbandonOrder : Nat → Bool

/-- The thinned flag of the LINE_END that stands for an abandoned attempt numbered 65,535: R108 asks for the LINE_END, and
R110 takes the flag from a finish report that an abandoned attempt does not have. Log entry 6. -/
opaque freeThinned : Nat → Bool

/-- The points offered field of the same LINE_END (R108, R110). Log entry 6. -/
opaque freePointsOffered : Nat → BitVec 32

/-- The raw input levels present as a reset ends that a RESET frame clocked byte by byte brings about: R18 takes them from
the pins, and the row of its last byte does not carry them. Log entry 7. -/
opaque freeLevels : Nat → InputLevels

/-- The quotient U × (t − t_e) / T_e of the interpolation part where T_e is 0, from the count, U and t − t_e: R1 keeps two edges
4 ticks apart, but local time held at its limit (R20) gives both the same time, and R6 states no value then. Log entry 39. -/
opaque freeQuotient : Nat → Nat → Nat → Nat

end Sys2Proof.Config
end

