-- ==== Sys2Proof/Machine/State.lean ====
section
/-! DEFINITION. The state of the SC4 as plain data, block by block, and its value right after a power-on reset. Each
structure follows the state table at the head of its block's chapter; each reset value follows the block's reset rule. -/

namespace Sys2Proof.Machine

/-! ## Names the manual gives -/

/-- The SC4 never stops: every command the table lists has an effect or none, so no fault is ever raised (safe: a claim
that a step faults cannot be proved). Log entry 8. -/
inductive Fault where
deriving DecidableEq, Repr

/-- Why a step gives a command no meaning. -/
inductive Refusal where
  /-- A row of the table whose meaning is not written yet; raised by exec's arms alone (safe: nothing is claimed). No arm
  raises it now. -/
  | notModelled (mnemonic : String)
deriving DecidableEq, Repr

/-- Direction of a quadrature step (R2). -/
inductive Direction where
  | forward
  | reverse
deriving DecidableEq, Repr

/-- Edges seen since reset, index or restart (R3). -/
inductive EdgesSeen where
  | zero
  | one
  | twoOrMore
deriving DecidableEq, Repr

/-- Mirror monitor states (R14 to R16). -/
inductive MonitorState where
  | spinup
  | ok
  | fault
deriving DecidableEq, Repr

/-- Device states (R189). -/
inductive DeviceState where
  | unconfigured
  | ready
  | running
deriving DecidableEq, Repr

/-- Walker states (section 6.2). -/
inductive WalkerState where
  | idle
  | slewing
  | lineWait
  | line
  | photo
  | paused
  | halted
  | faulted
deriving DecidableEq, Repr

/-- Membership (R122). -/
inductive Membership where
  | offline
  | joining
  | live
  | leaving
  | duplicate
deriving DecidableEq, Repr

/-- Photo sequence states (section 5.2). -/
inductive PhotoState where
  | idle
  | settle
  | grantWait
  | expose
deriving DecidableEq, Repr

/-- Transmitter states (R128). -/
inductive TxState where
  | idle
  | wait
  | send
deriving DecidableEq, Repr

/-- Kinds of site line frame (R217). -/
inductive FrameKind where
  | beacon
  | quiet
  | hold
deriving DecidableEq, Repr

/-- Return modes (R70). -/
inductive ReturnMode where
  | first
  | last
  | strongest
  | all
deriving DecidableEq, Repr

/-- Continuity modes (R66 to R68). -/
inductive ContinuityMode where
  | off
  | oneSide
  | both
deriving DecidableEq, Repr

/-- Unconfirmed actions (R69). -/
inductive UnconfirmedAction where
  | mark
  | drop
deriving DecidableEq, Repr

/-- Row states (section 11.7). -/
inductive RowState where
  | good
  | bad
  | writing
deriving DecidableEq, Repr

/-- Sources of a working table (section 11.7). -/
inductive TableSource where
  | store
  | default
  | command
deriving DecidableEq, Repr

/-- Causes of a reset (R204). -/
inductive ResetCause where
  | power
  | line
  | command
deriving DecidableEq, Repr

/-- Outcomes of a command (R192). -/
inductive ReplyOutcome where
  | ok
  | wrongState
  | badValue
  | busy
  | tooEarly
  | badPlan
deriving DecidableEq, Repr

/-- Causes of MIRROR_FAULT (R16). -/
inductive MirrorCause where
  | short
  | long
  | absent
deriving DecidableEq, Repr

/-- Causes of ECHO_SLIP (R39, R43). -/
inductive SlipCause where
  | format
  | order
  | unmatched
deriving DecidableEq, Repr

/-- Causes of PEER_LOST (R145). -/
inductive LossCause where
  | aged
  | left
deriving DecidableEq, Repr

/-- Causes of QUIET_CLOSED (R156 to R158). -/
inductive CloseCause where
  | cancel
  | expiry
  | removed
deriving DecidableEq, Repr

/-- Sources of PEER_HOLD (R164, R165). -/
inductive HoldSource where
  | hold
  | beacon
  | removed
deriving DecidableEq, Repr

/-- Causes of CAL_ROW_BAD (R200, R202). -/
inductive LoadCause where
  | load
  | reload
deriving DecidableEq, Repr

/-- First causes of the dirty mark (R60, R75). -/
inductive DirtyCause where
  | missing
  | refused
deriving DecidableEq, Repr

/-- Outcomes of a LINE_END (R110). -/
inductive LineOutcome where
  | accepted
  | gap
deriving DecidableEq, Repr

/-- The ways a run ends (R197, R198). -/
inductive RunEnd where
  | stop
  | planEnd
  | duplicate
deriving DecidableEq, Repr

/-- How an attempt ended, as the end notice says (section 4.1). -/
inductive EndKind where
  | ended
  | abandoned
deriving DecidableEq, Repr

/-! ## Gate conditions -/

/-- The gate conditions other than eligibility that were closed at an instant (R32), one flag each. -/
structure GateConditions where
  deviceMembership : Bool
  mirrorSpeed : Bool
  walker : Bool
  ownPhoto : Bool
  peerQuiet : Bool
  peerHold : Bool
deriving DecidableEq, Repr

/-! ## Plan, tables, settings -/

/-- A SEGMENT record of the plan (section 6.1). -/
structure Segment where
  azStart : Nat
  azEnd : Nat
  step : Int
  mFrom : Nat
  mTo : Nat
  divisor : Nat
  mode : ReturnMode
  watch : Bool
  interval : Nat
  mask : CameraSet
  retryLimit : Nat
deriving DecidableEq, Repr

/-- A record of the plan list (section 6.1). -/
inductive PlanRecord where
  | segment (g : Segment)
  | photo (azimuth : Nat) (mask : CameraSet)
  | repeatFrom (target count : Nat)
  | planEnd
deriving DecidableEq, Repr

/-- One correction segment of an encoder (R8). -/
structure CorrectionSegment where
  span : Nat
  correction : Int
deriving DecidableEq, Repr

/-- The range table (R47). -/
structure RangeTable where
  scale : Nat
  zero : Nat
deriving DecidableEq, Repr

/-- The stored geometry of a camera (section 5.1). -/
structure CameraGeometry where
  present : Bool
  azOffset : Nat
  elevation : Int
  halfWidthAz : Nat
  halfWidthEl : Nat
  pitchAz : Nat
  pitchEl : Nat
  centreCol : Nat
  centreRow : Nat
  width : Nat
  height : Nat
deriving DecidableEq, Repr

/-- The default of a camera row: the camera is absent (section 11.7). The manual gives its geometry fields no value and
reads none of them; they take the least value of their ranges, so that a stored default table passes its check again (R203).
Log entry 9, DESIGN CHOICE. -/
def CameraGeometry.absent : CameraGeometry :=
  ⟨false, 0, 0, 1, 1, 256, 256, 0, 0, 1, 1⟩

/-- The configuration in force: the 29 settings of section 11.4. -/
structure Settings where
  station : Option Nat
  mirrorExponent : Nat
  headExponent : Nat
  periodLow : Nat
  periodHigh : Nat
  blindHalfWidth : Nat
  basePeriod : Nat
  dither : Nat
  minRange : Nat
  maxRange : Nat
  proximityLimit : Nat
  continuity : ContinuityMode
  tolerance : Nat
  unconfirmed : UnconfirmedAction
  ppm : Int
  honourHolds : Bool
  announceHolds : Bool
  holdMinimum : Nat
  exposure : Vector Nat 4
  settle : Vector Nat 4
  thinThreshold : Nat
  resumeThreshold : Nat
  /-- Bit k set masks the event kind of priority k. -/
  eventMask : BitVec 20
deriving DecidableEq, Repr

/-- The configuration from the end of a reset to the first accepted CONFIGURE (R195). -/
def Settings.default : Settings where
  station := none
  mirrorExponent := 14
  headExponent := 18
  periodLow := 9500
  periodHigh := 10500
  blindHalfWidth := 65536
  basePeriod := 200
  dither := 25
  minRange := 6000
  maxRange := 3000000
  proximityLimit := 20000
  continuity := .oneSide
  tolerance := 500
  unconfirmed := .drop
  ppm := 0
  honourHolds := true
  announceHolds := true
  holdMinimum := 2
  exposure := .replicate 4 10000
  settle := .replicate 4 100
  thinThreshold := 1536
  resumeThreshold := 1024
  eventMask := 0

/-! ## Events and records -/

/-- An event with the detail of its occurrence (R214). -/
inductive Event where
  | proximityHalt (range line attempt : Nat)
  | headFault (target record : Nat)
  | mirrorFault (cause : MirrorCause) (period : Option Nat)
  | mirrorOk (period : Nat)
  | duplicateStation (own : Membership) (kind : FrameKind) (spoken : Membership)
  | peerHold (station : Nat) (on : Bool) (source : HoldSource)
  | live (entries liveEntries : Nat)
  | peerJoined (station : Nat) (seen : Membership)
  | peerLost (station : Nat) (cause : LossCause)
  | quietGranted (station length : Nat) (replaced clamped : Bool)
  | quietClosed (station : Nat) (cause : CloseCause)
  | lineGap (line counted : Nat)
  | echoSlip (cause : SlipCause) (tag : Nat)
  | thinningOn (occupancy : Nat)
  | thinningOff (occupancy : Nat)
  | lineJammed (hold quiet beacon : Bool)
  | calRowBad (row : Nat) (cause : LoadCause)
  | calStored (row : Nat)
  | planDone (lines : Nat)
  | resetCause (cause : ResetCause) (row : Option Nat)
deriving DecidableEq, Repr

/-- An entry of the pending event set (R181), and the contents of an EVENT record (R183). -/
structure PendingEvent where
  event : Event
  count : Nat
  time : Nat
deriving DecidableEq, Repr

/-- A return of a shot (R53). -/
structure Return where
  range : Nat
  amplitude : Nat
deriving DecidableEq, Repr

/-- A return as a point carries it, with its isolated flag (R69). -/
structure PointReturn where
  range : Nat
  amplitude : Nat
  isolated : Bool
deriving DecidableEq, Repr

/-- A colour reference (R73). -/
structure ColourRef where
  photo : Nat
  column : Nat
  row : Nat
deriving DecidableEq, Repr

/-- A point record (R74). -/
structure PointRecord where
  line : Nat
  attempt : Nat
  index : Nat
  fireTime : Nat
  mirrorAngle : Nat
  headAzimuth : Nat
  thinned : Bool
  moreEchoes : Bool
  missing : Bool
  returns : List PointReturn
  colour : Option ColourRef
deriving DecidableEq, Repr

/-- Reason and detail of a LINE_ABANDONED (R110); DIRTY carries its points offered. -/
inductive AbandonReason where
  | dirty (cause : DirtyCause) (shot : Nat) (pointsOffered : Nat)
  | gate (closed : GateConditions)
  | mirror
  | proximity
  | stop
  | duplicate
deriving DecidableEq, Repr

/-- A catalogue entry, and the contents of its PHOTO record (section 5.5). -/
structure Photo where
  number : Nat
  camera : Nat
  azimuth : Nat
  elevation : Int
  startTime : Nat
  /-- Exposure length in µs. -/
  length : Nat
  ungranted : List Nat
  peerLit : Bool
  aborted : Bool
deriving DecidableEq, Repr

/-- The items of a STATUS reply (R199, R216). -/
structure StatusReport where
  device : DeviceState
  station : Option Nat
  membership : Membership
  walker : WalkerState
  armed : Bool
  pausePending : Bool
  holdEnd : Option Nat
  recordIndex : Nat
  lineCounter : Nat
  attempt : Nat
  counted : Nat
  monitor : MonitorState
  occupancy : Nat
  thinning : Bool
  writeRow : Option Nat
  cause : ResetCause
  interruptedRow : Option Nat
  laneDiscards : Nat
deriving DecidableEq, Repr

/-- One entry of a PEERS reply (R151). -/
structure PeerReport where
  station : Nat
  seen : Membership
  sinceHeard : Nat
  firing : Bool
  hold : Bool
  grantedToMe : Bool
  windowLeft : Option Nat
deriving DecidableEq, Repr

/-- The discard counters of SLC (R136). -/
structure DiscardCounters where
  broken : Nat
  check : Nat
  station : Nat
  kind : Nat
  form : Nat
deriving DecidableEq, Repr

/-- The detail arguments of a REPLY (R215, R216). -/
inductive ReplyArgs where
  | nothing
  | setting (number : Nat)
  | planIndex (index : Nat)
  | configured (clamped first : Nat)
  | started (time : Nat) (membership : Membership)
  | status (r : StatusReport)
  | peers (station : Option Nat) (membership : Membership) (entries : List PeerReport) (counters : DiscardCounters)
  | photos (entries : List Photo) (next : Option Nat) (sequence : PhotoState)
  | plan (start : Nat) (records : List PlanRecord)
  | table (code : Nat) (source : TableSource) (rowState : RowState) (contents : List Byte)
deriving DecidableEq, Repr

/-- A REPLY record (R192, R215). -/
structure Reply where
  code : Nat
  outcome : ReplyOutcome
  detail : Nat
  args : ReplyArgs
deriving DecidableEq, Repr

/-- A record of the report queue (section 10.1). -/
inductive Record where
  | point (p : PointRecord)
  | lineBegin (line attempt : Nat) (time azimuth : Nat)
  | lineEnd (line attempt azimuth : Nat) (outcome : LineOutcome) (thinned : Bool) (counted fired offered : Nat)
  | lineAbandoned (line attempt azimuth : Nat) (reason : AbandonReason) (fired : Nat)
  | photo (p : Photo)
  | event (e : PendingEvent)
  | reply (r : Reply)
deriving DecidableEq, Repr

/-! ## ANU (chapter 1) -/

/-- The state ANU keeps for one encoder. The resolution exponent stands in the configuration in force. -/
structure EncoderState where
  /-- The filtered level pair. -/
  a : Bool
  b : Bool
  /-- The filtered index level. -/
  indexLevel : Bool
  count : Nat
  /-- t_e. -/
  edgeTime : Option Nat
  /-- T_e. -/
  interval : Option Nat
  edgesSeen : EdgesSeen
  lastDirection : Direction
  /-- When the stability filter last accepted a pair: what keeps two edges 4 ticks apart (R1). -/
  acceptTime : Option Nat
  correction : List CorrectionSegment
deriving DecidableEq, Repr

structure Anu where
  mirror : EncoderState
  head : EncoderState
  monitor : MonitorState
  previousIndex : Option Nat
  inRangeRun : Nat
  /-- The absence timer: its expiry while it runs. -/
  absence : Option Nat
deriving DecidableEq, Repr

/-! ## EMT (chapter 2) -/

/-- EMT's attempt context (R26). -/
structure EmitContext where
  line : Nat
  attempt : Nat
  mFrom : Nat
  mTo : Nat
  divisor : Nat
  candidates : Nat
  fired : Nat
  reported : Bool
deriving DecidableEq, Repr

/-- The schedule (R23): the next instant's time and its number. -/
structure Schedule where
  next : Nat
  number : Nat
deriving DecidableEq, Repr

/-- A FIRE pulse in progress: when it falls and the tag presented with it (R31). -/
structure FirePulse where
  fall : Nat
  tag : Nat
deriving DecidableEq, Repr

structure Emt where
  startTime : Option Nat
  schedule : Option Schedule
  /-- The dither generator, none while unseeded. -/
  generator : Option Nat
  tagCounter : Nat
  context : Option EmitContext
  /-- The fired count kept for a close notice that follows the end of the run (R37). -/
  keptFired : Option Nat
  /-- EMIT: high with an expiry time, or low. -/
  emit : Option Nat
  /-- The FIRE output: high until its fall, or low. -/
  fire : Option FirePulse
deriving DecidableEq, Repr

/-! ## RGU (chapter 3) -/

/-- A shot as EMT hands it to RGU (R31). -/
structure Shot where
  tag : Nat
  fireTime : Nat
  index : Nat
  line : Nat
  attempt : Nat
  mirrorAngle : Nat
  headAzimuth : Nat
deriving DecidableEq, Repr

/-- RGU's attempt record (R44). -/
structure RangeRecord where
  line : Nat
  attempt : Nat
  watch : Bool
  hitRaised : Bool
deriving DecidableEq, Repr

structure Rgu where
  /-- The open-shot list, oldest first. -/
  openShots : List Shot
  record : Option RangeRecord
  range : RangeTable
  walk : Vector Int 16
  effectiveScale : Nat
  /-- The bytes received of an echo set transfer in progress (R38). -/
  transfer : List Byte
deriving DecidableEq, Repr

/-! ## PTA (chapter 4) -/

/-- A shot as RGU hands it to PTA (R54). -/
structure ClosedShot where
  shot : Shot
  missing : Bool
  moreEchoes : Bool
  returns : List Return
deriving DecidableEq, Repr

/-- PTA's dirty mark, when set (R60, R75). -/
structure DirtyMark where
  cause : DirtyCause
  shot : Nat
deriving DecidableEq, Repr

/-- PTA's attempt context (R57). -/
structure PointContext where
  line : Nat
  attempt : Nat
  mode : ReturnMode
  dirty : Option DirtyMark
  offered : Nat
  thinned : Bool
deriving DecidableEq, Repr

/-- The finish report (R76). -/
structure FinishReport where
  line : Nat
  attempt : Nat
  dirty : Option DirtyMark
  offered : Nat
  thinned : Bool
deriving DecidableEq, Repr

structure Pta where
  /-- The judged predecessor. -/
  predecessor : Option ClosedShot
  /-- The held shot. -/
  held : Option ClosedShot
  context : Option PointContext
  /-- The finish report sent to PWK and not taken yet (the step FINISH_REPORT takes it). -/
  report : Option FinishReport
deriving DecidableEq, Repr

/-! ## PHC (chapter 5) -/

/-- The part of the exposure record kept for one camera (R86). -/
structure CameraExposure where
  trigger : Bool
  /-- Exposure length in µs. -/
  length : Nat
  peerLit : Bool
deriving DecidableEq, Repr

/-- The exposure record (R86). -/
structure ExposureRecord where
  startTime : Option Nat
  headAzimuth : Option Nat
  ungranted : List Nat
  cameras : Vector CameraExposure 4
deriving DecidableEq, Repr

/-- What a completion of outcome TAKEN carries (R88): first and last photo number, or none where none was made (R89). -/
structure PhotoRange where
  first : Option Nat
  last : Option Nat
deriving DecidableEq, Repr

structure Phc where
  cameras : Vector CameraGeometry 4
  sequence : PhotoState
  effectiveMask : CameraSet
  ownQuiet : Bool
  requestW : Nat
  requestSent : Bool
  expected : List Nat
  granted : List Nat
  /-- The sequence timer: settle end, grant timeout or exposure end. -/
  timer : Option Nat
  exposure : ExposureRecord
  catalogue : List Photo
  /-- The next photo number, none when exhausted (R89). -/
  nextNumber : Option Nat
  /-- PHOTO records awaiting room; the head waits at RPS while this is not empty. -/
  outgoing : List Photo
  /-- The TAKEN completion owed to PWK once the outgoing list has drained (R88). -/
  owed : Option PhotoRange
  /-- A walker request held until the outgoing list has drained (R80). -/
  heldRequest : Option CameraSet
deriving DecidableEq, Repr

/-! ## PWK (chapter 6) -/

/-- The segment context (section 6.1). -/
structure SegmentContext where
  record : Nat
  lineIndex : Nat
  lines : Nat
  done : Nat
  counted : Nat
deriving DecidableEq, Repr

/-- The walker's attempt record. -/
structure AttemptRecord where
  line : Nat
  attempt : Nat
  headAzimuth : Nat
  openTime : Nat
  fired : Option Nat
  ending : Bool
deriving DecidableEq, Repr

/-- The head slew: target, issue time, arrival and the 10 s fault timer (R102). -/
structure HeadSlew where
  target : Option Nat
  issueTime : Option Nat
  arrived : Bool
  faultTimer : Option Nat
deriving DecidableEq, Repr

/-- An action of the walker between lines: to take a plan record (R99), to arrive (R102), to act after a LINE_END from step
3 or from step 4 of R111, or to take a photo's completion (R113). -/
inductive WalkTask where
  | take (index : Nat)
  | arrive
  | afterLine
  | nextLine
  | photoDone
deriving DecidableEq, Repr

structure Pwk where
  plan : Vector PlanRecord 64
  state : WalkerState
  armed : Bool
  recordIndex : Nat
  segment : Option SegmentContext
  saved : Option SegmentContext
  /-- The REPEAT counters: none when unloaded, else the remaining count. -/
  counters : Vector (Option Nat) 64
  lineCounter : Nat
  attemptNumber : Nat
  attempt : Option AttemptRecord
  slew : HeadSlew
  /-- The head position command in force, none until the first one after a reset. -/
  headCommand : Option Nat
  /-- The level of the in-position input. -/
  inPosition : Bool
  /-- The attempt limit: its expiry while it runs. -/
  attemptLimit : Option Nat
  pausePending : Bool
  /-- Own hold: the hit time while set. -/
  ownHold : Option Nat
  /-- The outgoing record: the record that waits at RPS. -/
  outgoing : Option Record
  /-- The action deferred until the outgoing record has entered the queue (R105). -/
  deferred : Option WalkTask
deriving DecidableEq, Repr

/-! ## SLC (chapter 7) -/

/-- The frame in sending: its bytes on the transmit data line and the end of the last stop bit (R129). -/
structure TxFrame where
  kind : FrameKind
  bytes : List Byte
  finish : Nat
  /-- A QUIET composed while PHC was in GRANT_WAIT (R124). -/
  inGrantWait : Bool
  /-- The LEAVING beacon (R133). -/
  leaving : Bool
deriving DecidableEq, Repr

/-- The receive assembler (R135): HUNT, noting whether the byte before was a preamble byte taken in HUNT (log entry 38), HEADER
or BODY with the bytes since the sync byte. -/
inductive Assembler where
  | hunt (preamble : Bool)
  | header (bytes : List Byte)
  | body (bytes : List Byte)
deriving DecidableEq, Repr

structure Slc where
  membership : Membership
  pendingHold : Bool
  pendingQuiet : Bool
  pendingBeacon : Bool
  tx : TxState
  /-- The backoff last drawn, in slots. -/
  backoff : Nat
  access : Option Nat
  jam : Option Nat
  jamReported : Bool
  /-- The line generator, none while unseeded. -/
  generator : Option Nat
  beaconTimer : Option Nat
  leaveTimer : Option Nat
  /-- A START was accepted during the leave in progress: JOINING follows it (R134). -/
  rejoin : Bool
  frame : Option TxFrame
  /-- The level of the carrier-sense input. -/
  carrierSense : Bool
  assembler : Assembler
  /-- The byte gap limit of the assembler: its expiry in HEADER and BODY. -/
  byteGap : Option Nat
  counters : DiscardCounters
deriving DecidableEq, Repr

/-! ## PRU (chapters 8 and 9) -/

/-- An entry of the peer table (R139). -/
structure Peer where
  /-- Membership seen: JOINING or LIVE. -/
  seen : Membership
  lastHeard : Nat
  /-- The expiry of the age timer. -/
  age : Nat
  firing : Bool
  hold : Bool
  /-- The quiet window: its expiry while open. -/
  window : Option Nat
  grantedToMe : Bool
deriving DecidableEq, Repr

structure Pru where
  /-- Slot n − 1 is the slot of station n. -/
  slots : Vector (Option Peer) 15
  joinTimer : Option Nat
deriving DecidableEq, Repr

/-! ## RPS (chapter 10) -/

structure Rps where
  /-- The report queue, head first. -/
  queue : List Record
  thinning : Bool
  /-- The pending event set, in priority order. -/
  events : List PendingEvent
  /-- The port position: the index of the next word of the head record. -/
  port : Nat
deriving DecidableEq, Repr

/-! ## CMU and CST (chapter 11) -/

structure Cmu where
  device : DeviceState
  settings : Settings
  /-- The lane receiver: IDLE, or RECEIVING with the bytes so far. -/
  receiver : Option (List Byte)
  /-- The 1 ms gap limit of a frame in reception. -/
  laneGap : Option Nat
  /-- The READY output. -/
  ready : Bool
  /-- The current command's reply while it waits for room. -/
  reply : Option Reply
  laneDiscards : Nat
deriving DecidableEq, Repr

/-- A store row: its contents and its check, none when the row holds no valid check. -/
structure StoreRow where
  contents : List Byte
  check : Option Word16
deriving DecidableEq, Repr

/-- An erased row: it holds no contents and no valid check (R203, R204). -/
def StoreRow.erased : StoreRow := ⟨[], none⟩

/-- A write in progress (R203): the row, the snapshot of its table and the expiry. -/
structure RowWrite where
  row : Nat
  snapshot : List Byte
  expiry : Nat
deriving DecidableEq, Repr

structure Cst where
  rows : Vector StoreRow 8
  rowStates : Vector RowState 8
  sources : Vector TableSource 8
  write : Option RowWrite
  cause : ResetCause
  interruptedRow : Option Nat
deriving DecidableEq, Repr

/-! ## The whole part -/

/-- The state of the SC4: its blocks, local time, whether it has supply, the model's own draw counter for free values, and
the queue of the commands that wait. -/
structure State where
  powered : Bool
  /-- Local time in ticks (R20). -/
  time : Nat
  anu : Anu
  emt : Emt
  rgu : Rgu
  pta : Pta
  phc : Phc
  pwk : Pwk
  slc : Slc
  pru : Pru
  rps : Rps
  cmu : Cmu
  cst : Cst
  /-- The model's own: how many free values have been drawn. Log entry 4. -/
  draws : Nat
  /-- The commands that wait, front first. -/
  pending : List Instr
deriving DecidableEq, Repr

/-! ## Reset values -/

/-- One encoder after a reset (R18), with the raw levels the reset finds. -/
def EncoderState.reset (a b index : Bool) (correction : List CorrectionSegment) : EncoderState where
  a := a
  b := b
  indexLevel := index
  count := 0
  edgeTime := none
  interval := none
  edgesSeen := .zero
  lastDirection := .forward
  acceptTime := none
  correction := correction

/-- ANU after a reset (R18), its correction tables empty until the rows are loaded. -/
def Anu.reset (l : InputLevels) : Anu where
  mirror := .reset l.mirrorA l.mirrorB l.mirrorIndex []
  head := .reset l.headA l.headB l.headIndex []
  monitor := .spinup
  previousIndex := none
  inRangeRun := 0
  absence := none

/-- EMT after a reset (R34). -/
def Emt.reset : Emt := ⟨none, none, none, 0, none, none, none, none⟩

/-- The default range table (section 11.7). -/
def RangeTable.default : RangeTable := ⟨1534937, 0⟩

/-- RGU after a reset (R55), its tables at their defaults until the rows are loaded. -/
def Rgu.reset : Rgu where
  openShots := []
  record := none
  range := .default
  walk := .replicate 16 0
  effectiveScale := 1534937
  transfer := []

/-- PTA after a reset (R77). -/
def Pta.reset : Pta := ⟨none, none, none, none⟩

/-- The cleared exposure record (R94). -/
def ExposureRecord.cleared : ExposureRecord := ⟨none, none, [], .replicate 4 ⟨false, 0, false⟩⟩

/-- PHC after a reset (R94), its cameras absent until the rows are loaded. -/
def Phc.reset : Phc where
  cameras := .replicate 4 .absent
  sequence := .idle
  effectiveMask := 0
  ownQuiet := false
  requestW := 0
  requestSent := false
  expected := []
  granted := []
  timer := none
  exposure := .cleared
  catalogue := []
  nextNumber := some 1
  outgoing := []
  owed := none
  heldRequest := none

/-- PWK after a reset (R121), with the level of the in-position input. -/
def Pwk.reset (inPosition : Bool) : Pwk where
  plan := .replicate 64 .planEnd
  state := .idle
  armed := false
  recordIndex := 0
  segment := none
  saved := none
  counters := .replicate 64 none
  lineCounter := 1
  attemptNumber := 1
  attempt := none
  slew := ⟨none, none, false, none⟩
  headCommand := none
  inPosition := inPosition
  attemptLimit := none
  pausePending := false
  ownHold := none
  outgoing := none
  deferred := none

/-- SLC after a reset (R137), with the level of the carrier-sense input. -/
def Slc.reset (carrierSense : Bool) : Slc where
  membership := .offline
  pendingHold := false
  pendingQuiet := false
  pendingBeacon := false
  tx := .idle
  backoff := 0
  access := none
  jam := none
  jamReported := false
  generator := none
  beaconTimer := none
  leaveTimer := none
  rejoin := false
  frame := none
  carrierSense := carrierSense
  assembler := .hunt false
  byteGap := none
  counters := ⟨0, 0, 0, 0, 0⟩

/-- PRU after a reset (R153, R172). -/
def Pru.reset : Pru := ⟨.replicate 15 none, none⟩

/-- RPS after a reset, before the reset's events (R187). -/
def Rps.reset : Rps := ⟨[], false, [], 0⟩

/-- CMU after a reset (R206). -/
def Cmu.reset (ready : Bool) : Cmu where
  device := .unconfigured
  settings := .default
  receiver := none
  laneGap := none
  ready := ready
  reply := none
  laneDiscards := 0

/-- All input levels low. -/
def lowLevels : InputLevels := ⟨false, false, false, false, false, false, false, false⟩

/-- The part right after a power-on reset. The manual gives no contents for the store rows of a part that has never been
written: they are erased here (log entry 1, DESIGN CHOICE), so every table is its default (R200), and the queue holds the
reset's two events, CAL_ROW_BAD of eight rows and RESET_CAUSE of cause POWER (R187, R204). The input levels are low (log
entry 2, DESIGN CHOICE). -/
def State.reset : State where
  powered := true
  time := 0
  anu := .reset lowLevels
  emt := .reset
  rgu := .reset
  pta := .reset
  phc := .reset
  pwk := .reset false
  slc := .reset false
  pru := .reset
  rps := ⟨[.event ⟨.calRowBad 7 .load, 8, 0⟩, .event ⟨.resetCause .power none, 1, 0⟩], false, [], 0⟩
  cmu := .reset true
  cst := ⟨.replicate 8 .erased, .replicate 8 .bad, .replicate 8 .default, none, .power, none⟩
  draws := 0
  pending := []

/-! ## Updates of one block -/

def State.withTime (s : State) (x : Nat) : State := { s with time := x }
def State.withAnu (s : State) (x : Anu) : State := { s with anu := x }
def State.withEmt (s : State) (x : Emt) : State := { s with emt := x }
def State.withRgu (s : State) (x : Rgu) : State := { s with rgu := x }
def State.withPta (s : State) (x : Pta) : State := { s with pta := x }
def State.withPhc (s : State) (x : Phc) : State := { s with phc := x }
def State.withPwk (s : State) (x : Pwk) : State := { s with pwk := x }
def State.withSlc (s : State) (x : Slc) : State := { s with slc := x }
def State.withPru (s : State) (x : Pru) : State := { s with pru := x }
def State.withRps (s : State) (x : Rps) : State := { s with rps := x }
def State.withCmu (s : State) (x : Cmu) : State := { s with cmu := x }
def State.withCst (s : State) (x : Cst) : State := { s with cst := x }
/-- One more free value has been drawn. -/
def State.drawn (s : State) : State := { s with draws := s.draws + 1 }
def State.withPending (s : State) (x : List Instr) : State := { s with pending := x }

end Sys2Proof.Machine
end

