-- ==== Sys2Proof/Machine/Operands.lean ====
section
/-! DEFINITION. The encodings of fields (R207), the CRC-16, the layouts of tables and plan records (R209), the echo set
transfer (R219), and the arithmetic that several chapters share (R13, R48, R93). -/

namespace Sys2Proof.Machine

/-! ## Little-endian fields (R207) -/

/-- A natural number over w bytes, least significant byte first. -/
def le : Nat → Nat → List Byte
  | 0, _ => []
  | w + 1, n => BitVec.ofNat 8 n :: le w (n / 256)

/-- An integer over w bytes in two's complement, least significant byte first. -/
def leInt (w : Nat) (x : Int) : List Byte := le w (x % ((256 ^ w : Nat) : Int)).toNat

/-- The natural number that bytes spell, least significant byte first. -/
def unle : List Byte → Nat
  | [] => 0
  | b :: bs => b.toNat + 256 * unle bs

/-- The integer that bytes spell in two's complement over their width. -/
def unleInt (bs : List Byte) : Int :=
  if 2 * unle bs < 256 ^ bs.length then (unle bs : Int) else (unle bs : Int) - ((256 ^ bs.length : Nat) : Int)

/-- The w bytes at an offset. -/
def slice (bs : List Byte) (offset w : Nat) : List Byte := (bs.drop offset).take w

/-- The unsigned field of w bytes at an offset. -/
def field (bs : List Byte) (offset w : Nat) : Nat := unle (slice bs offset w)

/-- The signed field of w bytes at an offset. -/
def fieldInt (bs : List Byte) (offset w : Nat) : Int := unleInt (slice bs offset w)

/-- One byte of 1 or 0. -/
def flagByte (x : Bool) : Byte := if x then 1 else 0

/-! ## CRC-16 (R207) -/

/-- One shift of the check register. -/
def crcShift (r : Word16) : Word16 := if r.msb then (r <<< 1) ^^^ 0x1021#16 else r <<< 1

/-- One covered byte into the check register. -/
def crcByte (r : Word16) (b : Byte) : Word16 := Nat.repeat crcShift 8 (r ^^^ (b.setWidth 16 <<< 8))

/-- The check over covered bytes. -/
def crc16 (bs : List Byte) : Word16 := bs.foldl crcByte 0xFFFF#16

/-- The check as sent: two bytes, low byte first. -/
def checkBytes (c : Word16) : List Byte := le 2 c.toNat

/-! ## Shared arithmetic -/

/-- A full revolution, 2^20 angle units. -/
def revolution : Nat := 2 ^ 20

/-- The signed wrapped difference x − y of two angles (R13). -/
def wrapDiff (x y : Nat) : Int := ((x : Int) - (y : Int) + 524288) % 1048576 - 524288

/-- An integer over a positive number, rounded half away from zero (00_scope, Arithmetic; R48, R93). -/
def roundDiv (n : Int) (d : Nat) : Int :=
  if 0 ≤ n then (2 * n + d) / (2 * d) else -((2 * -n + d) / (2 * d))

/-- x held to lo..hi. -/
def clampInt (lo hi x : Int) : Int := if x < lo then lo else if hi < x then hi else x

/-- A count that saturates at 65,535. -/
def bump16 (n : Nat) : Nat := if n < 65535 then n + 1 else 65535

/-! ## Durations in ticks of 10 ns -/

def ticksOfUs (n : Nat) : Nat := n * 100
def ticksOfMs (n : Nat) : Nat := n * 100000
def ticksOfS (n : Nat) : Nat := n * 100000000

/-- The value local time holds at its end (R20). -/
def timeLimit : Nat := 2 ^ 48 - 1

/-! ## Contents of tables (R209) -/

/-- One field of a table's contents: its width, whether it is signed, and its range. -/
structure FieldSpec where
  width : Nat
  signed : Bool
  lo : Int
  hi : Int
deriving DecidableEq, Repr

/-- The fields of a camera's stored geometry, in the order of R209 with the ranges of section 5.1. -/
def cameraSpecs : List FieldSpec :=
  [⟨1, false, 0, 1⟩, ⟨3, false, 0, 1048575⟩, ⟨3, true, -262144, 262144⟩, ⟨3, false, 1, 262144⟩, ⟨3, false, 1, 262144⟩,
   ⟨4, false, 256, 16777216⟩, ⟨4, false, 256, 16777216⟩, ⟨2, false, 0, 8191⟩, ⟨2, false, 0, 8191⟩, ⟨2, false, 1, 8192⟩,
   ⟨2, false, 1, 8192⟩]

/-- The fields of one correction segment. -/
def segmentSpecs : List FieldSpec := [⟨4, false, 1, 65536⟩, ⟨2, true, -32768, 32767⟩]

/-- The fields of n correction segments. -/
def segmentsSpecs : Nat → List FieldSpec
  | 0 => []
  | n + 1 => segmentSpecs ++ segmentsSpecs n

/-- The fields of a table's contents by table code; a correction table's segment count is read from its first byte. -/
def tableSpecs (code : Nat) (contents : List Byte) : List FieldSpec :=
  match code with
  | 0 => [⟨4, false, 1400000, 1700000⟩, ⟨2, false, 0, 65535⟩]
  | 1 => .replicate 16 ⟨2, true, -2048, 2047⟩
  | 2 => ⟨1, false, 0, 16⟩ :: segmentsSpecs (field contents 0 1)
  | 3 => ⟨1, false, 0, 16⟩ :: segmentsSpecs (field contents 0 1)
  | _ => cameraSpecs

/-- The length of contents that fields announce. -/
def specsLength (specs : List FieldSpec) : Nat := (specs.map (·.width)).sum

/-- The values of the fields. -/
def readFields : List FieldSpec → List Byte → List Int
  | [], _ => []
  | f :: fs, bs =>
    (if f.signed then unleInt (bs.take f.width) else (unle (bs.take f.width) : Int)) :: readFields fs (bs.drop f.width)

/-- The bytes of field values. -/
def writeFields : List FieldSpec → List Int → List Byte
  | f :: fs, x :: xs => leInt f.width x ++ writeFields fs xs
  | _, _ => []

/-- Whether contents have the length their table and its own segment count announce. -/
def contentsFit (code : Nat) (contents : List Byte) : Bool :=
  contents.length == specsLength (tableSpecs code contents)

/-- The number, from 1, of the first field outside its range (R201, R209). -/
def firstBadFrom (n : Nat) : List FieldSpec → List Int → Option Nat
  | f :: fs, x :: xs => if f.lo ≤ x ∧ x ≤ f.hi then firstBadFrom (n + 1) fs xs else some n
  | _, _ => none

/-- The values of a table's contents. -/
def tableValues (code : Nat) (contents : List Byte) : List Int := readFields (tableSpecs code contents) contents

/-- The number of the first field of a table's contents outside its range. -/
def firstBadField (code : Nat) (contents : List Byte) : Option Nat :=
  firstBadFrom 1 (tableSpecs code contents) (tableValues code contents)

/-- Correction segments from span and correction values. -/
def segmentsOf : List Int → List CorrectionSegment
  | span :: c :: rest => ⟨span.toNat, c⟩ :: segmentsOf rest
  | _ => []

def rangeTableOf (v : List Int) : RangeTable := ⟨(v.getD 0 0).toNat, (v.getD 1 0).toNat⟩
def walkTableOf (v : List Int) : Vector Int 16 := Vector.ofFn fun i => v.getD i 0
def correctionOf (v : List Int) : List CorrectionSegment := segmentsOf (v.drop 1)
def cameraOf (v : List Int) : CameraGeometry where
  present := v.getD 0 0 == 1
  azOffset := (v.getD 1 0).toNat
  elevation := v.getD 2 0
  halfWidthAz := (v.getD 3 0).toNat
  halfWidthEl := (v.getD 4 0).toNat
  pitchAz := (v.getD 5 0).toNat
  pitchEl := (v.getD 6 0).toNat
  centreCol := (v.getD 7 0).toNat
  centreRow := (v.getD 8 0).toNat
  width := (v.getD 9 0).toNat
  height := (v.getD 10 0).toNat

def RangeTable.contents (t : RangeTable) : List Byte := le 4 t.scale ++ le 2 t.zero
def walkContents (w : Vector Int 16) : List Byte := w.toList.flatMap (leInt 2)
def correctionContents (c : List CorrectionSegment) : List Byte :=
  le 1 c.length ++ c.flatMap fun g => le 4 g.span ++ leInt 2 g.correction
def CameraGeometry.contents (g : CameraGeometry) : List Byte :=
  [flagByte g.present] ++ le 3 g.azOffset ++ leInt 3 g.elevation ++ le 3 g.halfWidthAz ++ le 3 g.halfWidthEl ++
  le 4 g.pitchAz ++ le 4 g.pitchEl ++ le 2 g.centreCol ++ le 2 g.centreRow ++ le 2 g.width ++ le 2 g.height

/-! ## Plan records (R209) -/

def returnModeCode : ReturnMode → Nat
  | .first => 1
  | .last => 2
  | .strongest => 3
  | .all => 4

def returnModeOf : Nat → Option ReturnMode
  | 1 => some .first
  | 2 => some .last
  | 3 => some .strongest
  | 4 => some .all
  | _ => none

def yesNoOf : Nat → Option Bool
  | 0 => some false
  | 1 => some true
  | _ => none

/-- Whether every field of a segment lies in its stored range (section 6.1). -/
def Segment.inRange (g : Segment) : Bool :=
  decide (g.azStart < 1048576 ∧ g.azEnd < 1048576 ∧ -524288 ≤ g.step ∧ g.step ≤ 524287 ∧ g.mFrom < 1048576 ∧
    g.mTo < 1048576 ∧ 1 ≤ g.divisor ∧ g.divisor ≤ 16 ∧ g.interval ≤ 1000 ∧ 1 ≤ g.retryLimit ∧ g.retryLimit ≤ 15)

/-- Whether every field of a plan record lies in its stored range (section 6.1). -/
def PlanRecord.inRange : PlanRecord → Bool
  | .segment g => g.inRange
  | .photo az _ => decide (az < 1048576)
  | .repeatFrom target count => decide (target ≤ 63 ∧ count ≤ 255)
  | .planEnd => true

/-- The SEGMENT of 23 bytes, its enumerated fields judged. Of a camera mask bits 0 to 3 are taken, and the others, which stand for
no camera, are ignored. Log entry 42, DESIGN CHOICE. -/
def parseSegment (bs : List Byte) : Option Segment :=
  match returnModeOf (field bs 17 1), yesNoOf (field bs 18 1) with
  | some mode, some watch =>
    some ⟨field bs 1 3, field bs 4 3, fieldInt bs 7 3, field bs 10 3, field bs 13 3, field bs 16 1, mode, watch,
      field bs 19 2, BitVec.ofNat 4 (field bs 21 1), field bs 22 1⟩
  | _, _ => none

/-- The plan record of 23 bytes: none where the kind is unknown or a field lies outside its stored range (R96). -/
def parseRecord (bs : List Byte) : Option PlanRecord :=
  match field bs 0 1 with
  | 1 => (parseSegment bs).bind fun g => if g.inRange then some (.segment g) else none
  | 2 => if field bs 1 3 < 1048576 then some (.photo (field bs 1 3) (BitVec.ofNat 4 (field bs 4 1))) else none
  | 3 => if field bs 1 1 ≤ 63 then some (.repeatFrom (field bs 1 1) (field bs 2 1)) else none
  | 4 => some .planEnd
  | _ => none

/-- The 23 bytes of a plan record. -/
def PlanRecord.bytes : PlanRecord → List Byte
  | .segment g =>
    le 1 1 ++ le 3 g.azStart ++ le 3 g.azEnd ++ leInt 3 g.step ++ le 3 g.mFrom ++ le 3 g.mTo ++ le 1 g.divisor ++
    le 1 (returnModeCode g.mode) ++ [flagByte g.watch] ++ le 2 g.interval ++ le 1 g.mask.toNat ++ le 1 g.retryLimit
  | .photo az mask => le 1 2 ++ le 3 az ++ le 1 mask.toNat ++ le 18 0
  | .repeatFrom target count => le 1 3 ++ le 1 target ++ le 1 count ++ le 20 0
  | .planEnd => le 1 4 ++ le 22 0

/-- The plan records of a PLAN_WRITE, none where any of them is refused. -/
def parseRecords : List (List Byte) → Option (List PlanRecord)
  | [] => some []
  | bs :: rest => (parseRecord bs).bind fun r => (parseRecords rest).map (r :: ·)

/-! ## Echo set transfers (R219) -/

/-- One echo: ToF and amplitude. -/
structure Echo where
  tof : Nat
  amplitude : Nat
deriving DecidableEq, Repr

/-- An echo set: tag, echo count as the header gives it, and the echoes that follow. -/
structure EchoSet where
  tag : Nat
  count : Nat
  echoes : List Echo
deriving DecidableEq, Repr

/-- The echo of four bytes. -/
def parseEcho (bs : List Byte) : Echo := ⟨unle bs % 1048576, unle bs / 1048576⟩

/-- n echoes from their bytes. -/
def parseEchoes : Nat → List Byte → List Echo
  | 0, _ => []
  | n + 1, bs => parseEcho (bs.take 4) :: parseEchoes n (bs.drop 4)

/-- The echo count that a transfer's header announces. -/
def announcedEchoes (bs : List Byte) : Nat := field bs 1 1 % 8

/-- A transfer's first complete echo set with the bytes after it; none while it is not yet complete. -/
def parseTransfer (bs : List Byte) : Option (EchoSet × List Byte) :=
  if 2 ≤ bs.length ∧ 2 + 4 * announcedEchoes bs ≤ bs.length then
    some (⟨field bs 0 1, announcedEchoes bs, parseEchoes (announcedEchoes bs) (bs.drop 2)⟩,
      bs.drop (2 + 4 * announcedEchoes bs))
  else none

/-- The bytes of an echo set's transfer. -/
def EchoSet.bytes (e : EchoSet) : List Byte :=
  le 1 e.tag ++ le 1 e.count ++ e.echoes.flatMap fun x => le 4 (x.tof + 1048576 * x.amplitude)

end Sys2Proof.Machine
end

