-- ==== Sys2Proof/Decode.lean ====
section
/-! DEFINITION. The command frames of the lane (R208, R209): the bytes of a command and the judgement of a frame's bytes
(R191). No row of the opcode table gives bits, so no word spells a command and decodeTableWord answers none. -/

namespace Sys2Proof

open Sys2Proof.Machine (le leInt unle field slice crc16 checkBytes contentsFit)

/-- The command that a word of the opcode table spells: the table gives no row any bits. -/
def decodeTableWord (_nbits _w : Nat) : Option Instr := none

/-! ## The bytes of a command (R208, R209) -/

/-- The command code of a row that is a command frame; 0 for every other row (R208). -/
def commandCode : Instr → Nat
  | .configure _ => 1
  | .loadTable _ _ => 2
  | .readTable _ => 3
  | .calStore _ => 4
  | .calReload _ => 5
  | .planWrite _ _ => 6
  | .planRead _ _ => 7
  | .start _ => 8
  | .stop => 9
  | .pause => 10
  | .continueRun => 11
  | .status => 12
  | .peers => 13
  | .photos => 14
  | .reset _ => 15
  | _ => 0

/-- One entry of a CONFIGURE payload (R209). -/
def SettingEntry.bytes (e : SettingEntry) : List Byte := [e.number] ++ le 4 e.value.toNat

/-- The payload of a command (R209). -/
def commandPayload : Instr → List Byte
  | .configure entries => le 1 entries.length ++ entries.flatMap SettingEntry.bytes
  | .loadTable code contents => [code] ++ contents
  | .readTable code => [code]
  | .calStore row => [row]
  | .calReload row => [row]
  | .planWrite start records => [start] ++ le 1 records.length ++ records.flatten
  | .planRead start count => [start, count]
  | .start index => [index]
  | _ => []

/-- The header and payload of a frame, which its check covers (R208). -/
def frameCovered (code : Nat) (payload : List Byte) : List Byte := le 1 code ++ le 2 payload.length ++ payload

/-- A command frame (R208). -/
def frameBytes (code : Nat) (payload : List Byte) : List Byte :=
  frameCovered code payload ++ checkBytes (crc16 (frameCovered code payload))

/-- The command frame of a command. -/
def encodeFrame (i : Instr) : List Byte := frameBytes (commandCode i) (commandPayload i)

/-! ## The judgement of a frame (R191) -/

/-- The payload length a frame's header announces (R208). -/
def announcedLength (bs : List Byte) : Nat := field bs 1 2

/-- A frame is complete once its header, the payload it announces and the check have been taken (R190, R208). -/
def frameComplete (bs : List Byte) : Bool := decide (3 ≤ bs.length ∧ 5 + announcedLength bs ≤ bs.length)

/-- The faults of a complete frame (R191). -/
inductive FrameFault where
  | check
  | unknown
  | form
deriving DecidableEq, Repr

/-- Entries of 5 bytes (R209). -/
def parseEntries : Nat → List Byte → List SettingEntry
  | 0, _ => []
  | n + 1, bs => ⟨bs.getD 0 0, BitVec.ofNat 32 (field bs 1 4)⟩ :: parseEntries n (bs.drop 5)

/-- Plan records of 23 bytes (R209). -/
def splitRecords : Nat → List Byte → List (List Byte)
  | 0, _ => []
  | n + 1, bs => bs.take 23 :: splitRecords n (bs.drop 23)

/-- A payload of a fixed length, or none. -/
def ofLength (n : Nat) (payload : List Byte) (i : Instr) : Option Instr := if payload.length = n then some i else none

/-- The CONFIGURE of a payload (R209). -/
def parseConfigure (p : List Byte) : Option Instr :=
  if 1 ≤ p.length ∧ p.length = 1 + 5 * field p 0 1 then some (.configure (parseEntries (field p 0 1) (p.drop 1))) else none

/-- The LOAD_TABLE of a payload; for a table code above 7 only the fixed part is judged (R209). -/
def parseLoadTable (p : List Byte) : Option Instr :=
  if 1 ≤ p.length ∧ (7 < field p 0 1 ∨ contentsFit (field p 0 1) (p.drop 1) = true) then
    some (.loadTable (p.getD 0 0) (p.drop 1))
  else none

/-- The PLAN_WRITE of a payload (R209). -/
def parsePlanWrite (p : List Byte) : Option Instr :=
  if 2 ≤ p.length ∧ p.length = 2 + 23 * field p 1 1 then
    some (.planWrite (p.getD 0 0) (splitRecords (field p 1 1) (p.drop 2)))
  else none

/-- The command of a code and a payload, none where the payload does not fit (R191 FORM, R209). The raw levels are those that
a RESET finds as it ends. -/
def parsePayloadOf (levels : InputLevels) (code : Nat) (p : List Byte) : Option Instr :=
  match code with
  | 1 => parseConfigure p
  | 2 => parseLoadTable p
  | 3 => ofLength 1 p (.readTable (p.getD 0 0))
  | 4 => ofLength 1 p (.calStore (p.getD 0 0))
  | 5 => ofLength 1 p (.calReload (p.getD 0 0))
  | 6 => parsePlanWrite p
  | 7 => ofLength 2 p (.planRead (p.getD 0 0) (p.getD 1 0))
  | 8 => ofLength 1 p (.start (p.getD 0 0))
  | 9 => ofLength 0 p .stop
  | 10 => ofLength 0 p .pause
  | 11 => ofLength 0 p .continueRun
  | 12 => ofLength 0 p .status
  | 13 => ofLength 0 p .peers
  | 14 => ofLength 0 p .photos
  | 15 => ofLength 0 p (.reset levels)
  | _ => none

/-- A command code names a command (R208). -/
def knownCode (code : Nat) : Bool := decide (1 ≤ code ∧ code ≤ 15)

/-- The bytes of a complete frame that its check covers. -/
def coveredPart (bs : List Byte) : List Byte := bs.take (3 + announcedLength bs)

/-- The check a complete frame carries. -/
def carriedCheck (bs : List Byte) : Nat := field bs (3 + announcedLength bs) 2

/-- The judgement of a complete frame (R191): CHECK, UNKNOWN, FORM, else its command. -/
def judgeFrame (levels : InputLevels) (bs : List Byte) : Except FrameFault Instr :=
  if carriedCheck bs ≠ (crc16 (coveredPart bs)).toNat then .error .check
  else if knownCode (field bs 0 1) = false then .error .unknown
  else match parsePayloadOf levels (field bs 0 1) (slice bs 3 (announcedLength bs)) with
    | some i => .ok i
    | none => .error .form

end Sys2Proof
end

