-- ==== Sys2Proof/Machine/Flags.lean ====
section
/-! DEFINITION. Conditions and output levels derived from the state: they keep no state of their own between readings (R29,
R166, R168, R184, R185). -/

namespace Sys2Proof.Machine

/-! ## Peer table readings (R138, R168) -/

/-- The entry of a station, none where its slot is empty or there is no such slot. -/
def Pru.peer (x : Pru) (station : Nat) : Option Peer :=
  if station = 0 then none else (x.slots[station - 1]?).join

/-- The table with a station's slot replaced. -/
def Pru.setPeer (x : Pru) (station : Nat) (p : Option Peer) : Pru :=
  if station = 0 then x else { x with slots := x.slots.setIfInBounds (station - 1) p }

/-- The occupied slots in increasing station number, from station n on. -/
def peersFrom (n : Nat) : List (Option Peer) → List (Nat × Peer)
  | [] => []
  | none :: rest => peersFrom (n + 1) rest
  | some p :: rest => (n, p) :: peersFrom (n + 1) rest

/-- The entries of the table with their station numbers, in increasing station number (R138). -/
def Pru.entries (x : Pru) : List (Nat × Peer) := peersFrom 1 x.slots.toList

/-- The stations whose quiet window is open: the grant list (R159). -/
def Pru.grants (x : Pru) : List Nat := (x.entries.filter fun e => e.2.window.isSome).map (·.1)

/-- The stations seen as LIVE. -/
def Pru.liveStations (x : Pru) : List Nat := (x.entries.filter fun e => e.2.seen == .live).map (·.1)

/-- The peer-quiet condition is CLOSED: an entry holds an open window (chapter 9). -/
def Pru.quietClosed (x : Pru) : Bool := x.entries.any fun e => e.2.window.isSome

/-- The honoured hold is STANDING (R166). -/
def holdStanding (c : Settings) (x : Pru) : Bool := c.honourHolds && x.entries.any fun e => e.2.hold

/-! ## The firing gate (R29, R32) -/

/-- The gate conditions other than eligibility, a set flag for a closed one. -/
def State.closedConditions (s : State) : GateConditions where
  deviceMembership := !(s.cmu.device == .running && s.slc.membership == .live)
  mirrorSpeed := !(s.anu.monitor == .ok)
  walker := !(s.pwk.state == .line)
  ownPhoto := s.phc.ownQuiet
  peerQuiet := s.pru.quietClosed
  peerHold := holdStanding s.cmu.settings s.pru

/-- At least one condition is closed. -/
def GateConditions.anyClosed (g : GateConditions) : Bool :=
  g.deviceMembership || g.mirrorSpeed || g.walker || g.ownPhoto || g.peerQuiet || g.peerHold

/-! ## The site line (R122, R129) -/

/-- The assembler takes bytes: JOINING or LIVE, and not in SEND. -/
def Slc.listening (x : Slc) : Bool :=
  (x.membership == .joining || x.membership == .live) && !(x.tx == .send)

/-- Something is pending in the transmit pending set. -/
def Slc.anyPending (x : Slc) : Bool := x.pendingHold || x.pendingQuiet || x.pendingBeacon

/-- The hold flag that a beacon composed now would carry (R123). -/
def State.holdFlag (s : State) : Bool := s.pwk.ownHold.isSome && s.cmu.settings.announceHolds

/-! ## Events (section 10.3) -/

/-- The priority number of an event's kind. -/
def Event.kind : Event → Nat
  | .proximityHalt .. => 0
  | .headFault .. => 1
  | .mirrorFault .. => 2
  | .mirrorOk .. => 3
  | .duplicateStation .. => 4
  | .peerHold .. => 5
  | .live .. => 6
  | .peerJoined .. => 7
  | .peerLost .. => 8
  | .quietGranted .. => 9
  | .quietClosed .. => 10
  | .lineGap .. => 11
  | .echoSlip .. => 12
  | .thinningOn .. => 13
  | .thinningOff .. => 14
  | .lineJammed .. => 15
  | .calRowBad .. => 16
  | .calStored .. => 17
  | .planDone .. => 18
  | .resetCause .. => 19

/-- PROXIMITY_HALT, HEAD_FAULT, DUPLICATE_STATION and RESET_CAUSE are reported whatever the mask says (R182). -/
def unmaskable (kind : Nat) : Bool := kind == 0 || kind == 1 || kind == 4 || kind == 19

/-- The mask in force drops raises of this kind (R182). -/
def Settings.masks (c : Settings) (kind : Nat) : Bool := c.eventMask.getLsbD kind && !unmaskable kind

/-! ## The report queue (R174, R184, R185) -/

/-- The queue's capacity. -/
def queueCapacity : Nat := 2048

/-- The point limit. -/
def pointLimit : Nat := 1984

/-- The occupancy. -/
def Rps.occupancy (q : Rps) : Nat := q.queue.length

/-- There is room for a non-point record. -/
def Rps.room (q : Rps) : Bool := decide (q.queue.length < queueCapacity)

/-- The ATTN output (R184). -/
def Rps.attn (q : Rps) : Bool := !q.events.isEmpty

/-- The VALID output (R185). -/
def Rps.valid (q : Rps) : Bool := !q.queue.isEmpty

/-- The waiting set (R176): whether CMU, PWK and PHC wait with a record. -/
def State.waitingSet (s : State) : Bool × Bool × Bool :=
  (s.cmu.reply.isSome, s.pwk.outgoing.isSome, !s.phc.outgoing.isEmpty)

/-- The EMIT output (R33). -/
def State.emitHigh (s : State) : Bool := s.emt.emit.isSome

/-- A timer is due: it runs and its expiry has been reached. A time beyond the limit of local time is never reached (R20). -/
def due (timer : Option Nat) (now : Nat) : Bool :=
  match timer with
  | some t => decide (t ≤ now)
  | none => false

end Sys2Proof.Machine
end

