-- ==== Sys2Proof/Machine/Records.lean ====
section
/-! DEFINITION. The byte layouts of the report records (R210 to R216) and the words the report port presents (R185). -/

namespace Sys2Proof.Machine

/-! ## Codes -/

def membershipCode : Membership → Nat
  | .offline => 0
  | .joining => 1
  | .live => 2
  | .leaving => 3
  | .duplicate => 4

def frameKindCode : FrameKind → Nat
  | .beacon => 1
  | .quiet => 2
  | .hold => 3

def deviceCode : DeviceState → Nat
  | .unconfigured => 1
  | .ready => 2
  | .running => 3

def walkerCode : WalkerState → Nat
  | .idle => 0
  | .slewing => 1
  | .lineWait => 2
  | .line => 3
  | .photo => 4
  | .paused => 5
  | .halted => 6
  | .faulted => 7

def monitorCode : MonitorState → Nat
  | .spinup => 0
  | .ok => 1
  | .fault => 2

def photoStateCode : PhotoState → Nat
  | .idle => 0
  | .settle => 1
  | .grantWait => 2
  | .expose => 3

def sourceCode : TableSource → Nat
  | .store => 1
  | .default => 2
  | .command => 3

def rowStateCode : RowState → Nat
  | .good => 1
  | .bad => 2
  | .writing => 3

def resetCauseCode : ResetCause → Nat
  | .power => 1
  | .line => 2
  | .command => 3

def outcomeCode : ReplyOutcome → Nat
  | .ok => 0
  | .wrongState => 1
  | .badValue => 2
  | .busy => 3
  | .tooEarly => 4
  | .badPlan => 5

/-! ## Parts of records -/

/-- Bytes extended with 0 to n bytes. -/
def padTo (n : Nat) (bs : List Byte) : List Byte := bs ++ le (n - bs.length) 0

/-- Flags as one byte, the first the least significant bit. -/
def flagsByte (flags : List Bool) : List Byte := le 1 (flags.foldr (fun f n => f.toNat + 2 * n) 0)

/-- One return of a POINT (R211). -/
def PointReturn.bytes (r : PointReturn) : List Byte :=
  le 4 r.range ++ le 2 (r.amplitude % 4096 + if r.isolated then 32768 else 0)

/-- A colour reference (R211). -/
def ColourRef.bytes (c : ColourRef) : List Byte := le 4 c.photo ++ le 2 c.column ++ le 2 c.row

/-- A POINT from offset 2 (R211). -/
def PointRecord.body (p : PointRecord) : List Byte :=
  le 4 p.line ++ le 2 p.attempt ++ le 4 p.index ++ le 6 p.fireTime ++ le 3 p.mirrorAngle ++ le 3 p.headAzimuth ++
  flagsByte [p.thinned, p.moreEchoes, p.missing, p.colour.isSome] ++ le 1 p.returns.length ++
  p.returns.flatMap PointReturn.bytes ++ (p.colour.map ColourRef.bytes).getD []

/-- The closed conditions as the detail argument of GATE (R212). -/
def GateConditions.code (g : GateConditions) : Nat :=
  g.deviceMembership.toNat + 2 * g.mirrorSpeed.toNat + 4 * g.walker.toNat + 8 * g.ownPhoto.toNat +
  16 * g.peerQuiet.toNat + 32 * g.peerHold.toNat

/-- Reason, detail code and detail argument of a LINE_ABANDONED (R212). -/
def AbandonReason.codes : AbandonReason → Nat × Nat × Nat
  | .dirty .missing shot _ => (1, 1, shot)
  | .dirty .refused shot _ => (1, 2, shot)
  | .gate closed => (2, 1, closed.code)
  | .mirror => (2, 2, 0)
  | .proximity => (2, 3, 0)
  | .stop => (3, 1, 0)
  | .duplicate => (3, 2, 0)

/-- The points offered of a LINE_ABANDONED, present for DIRTY only (R212). -/
def AbandonReason.offered : AbandonReason → List Byte
  | .dirty _ _ offered => le 4 offered
  | _ => []

/-- A PHOTO from offset 2 (R213). -/
def Photo.body (p : Photo) : List Byte :=
  le 4 p.number ++ le 1 p.camera ++ flagsByte [p.peerLit, p.aborted] ++ le 3 p.azimuth ++ leInt 3 p.elevation ++
  le 6 p.startTime ++ le 4 p.length ++ le 1 p.ungranted.length ++ p.ungranted.flatMap (le 1)

/-- The detail of an event (R214), before it is extended to 12 bytes. -/
def Event.detail : Event → List Byte
  | .proximityHalt r line attempt => le 4 r ++ le 4 line ++ le 2 attempt
  | .headFault target record => le 3 target ++ le 1 record
  | .mirrorFault cause period =>
    le 1 (match cause with | .short => 1 | .long => 2 | .absent => 3) ++ le 4 (period.getD 0)
  | .mirrorOk period => le 4 period
  | .duplicateStation own kind spoken => le 1 (membershipCode own) ++ le 1 (frameKindCode kind) ++ le 1 (membershipCode spoken)
  | .peerHold station on source =>
    le 1 station ++ le 1 on.toNat ++ le 1 (match source with | .hold => 1 | .beacon => 2 | .removed => 3)
  | .live entries liveEntries => le 1 entries ++ le 1 liveEntries
  | .peerJoined station seen => le 1 station ++ le 1 (membershipCode seen)
  | .peerLost station cause => le 1 station ++ le 1 (match cause with | .aged => 1 | .left => 2)
  | .quietGranted station length replaced clamped =>
    le 1 station ++ le 2 length ++ le 1 (if replaced then 2 else 1) ++ le 1 clamped.toNat
  | .quietClosed station cause =>
    le 1 station ++ le 1 (match cause with | .cancel => 1 | .expiry => 2 | .removed => 3)
  | .lineGap line counted => le 4 line ++ le 1 counted
  | .echoSlip cause tag => le 1 (match cause with | .format => 1 | .order => 2 | .unmatched => 3) ++ le 1 tag
  | .thinningOn occupancy => le 2 occupancy
  | .thinningOff occupancy => le 2 occupancy
  | .lineJammed hold quiet beacon => flagsByte [hold, quiet, beacon]
  | .calRowBad row cause => le 1 row ++ le 1 (match cause with | .load => 1 | .reload => 2)
  | .calStored row => le 1 row
  | .planDone lines => le 4 lines
  | .resetCause cause row => le 1 (resetCauseCode cause) ++ le 1 row.isSome.toNat ++ le 1 (row.getD 0)

/-- An EVENT from offset 2 (R214). -/
def PendingEvent.body (e : PendingEvent) : List Byte :=
  le 1 e.event.kind ++ le 1 e.count ++ le 6 e.time ++ padTo 12 e.event.detail

/-- The STATUS layout (R216). A hold end past the limit of local time, which is never reached (R20), does not fit its 6 bytes:
they carry it modulo 2^48. Log entry 41, DESIGN CHOICE. -/
def StatusReport.bytes (r : StatusReport) : List Byte :=
  le 1 (deviceCode r.device) ++ le 1 (r.station.getD 0) ++ le 1 (membershipCode r.membership) ++
  le 1 (walkerCode r.walker) ++ flagsByte [r.armed, r.pausePending, r.holdEnd.isSome] ++ le 1 r.recordIndex ++
  le 4 r.lineCounter ++ le 2 r.attempt ++ le 1 r.counted ++ le 6 (r.holdEnd.getD 0) ++ le 1 (monitorCode r.monitor) ++
  le 2 r.occupancy ++ le 1 r.thinning.toNat ++ le 1 r.writeRow.isSome.toNat ++ le 1 (r.writeRow.getD 0) ++
  le 1 (resetCauseCode r.cause) ++ le 1 r.interruptedRow.isSome.toNat ++ le 1 (r.interruptedRow.getD 0) ++
  le 2 r.laneDiscards

/-- One entry of the PEERS layout (R216). -/
def PeerReport.bytes (p : PeerReport) : List Byte :=
  le 1 p.station ++ le 1 (membershipCode p.seen) ++ le 2 p.sinceHeard ++
  flagsByte [p.firing, p.hold, p.grantedToMe, p.windowLeft.isSome] ++ le 2 (p.windowLeft.getD 0)

def DiscardCounters.bytes (d : DiscardCounters) : List Byte :=
  le 2 d.broken ++ le 2 d.check ++ le 2 d.station ++ le 2 d.kind ++ le 2 d.form

/-- The detail arguments of a REPLY (R215, R216). -/
def ReplyArgs.bytes : ReplyArgs → List Byte
  | .nothing => []
  | .setting number => le 1 number
  | .planIndex index => le 1 index
  | .configured clamped first => le 1 clamped ++ le 1 first
  | .started time membership => le 6 time ++ le 1 (membershipCode membership)
  | .status r => r.bytes
  | .peers station membership entries counters =>
    le 1 (station.getD 0) ++ le 1 (membershipCode membership) ++ le 1 entries.length ++
    entries.flatMap PeerReport.bytes ++ counters.bytes
  | .photos entries next sequence =>
    le 1 entries.length ++ entries.flatMap Photo.body ++ le 4 (next.getD 0) ++ le 1 (photoStateCode sequence)
  | .plan start records => le 1 start ++ le 1 records.length ++ records.flatMap PlanRecord.bytes
  | .table code source rowState contents =>
    le 1 code ++ le 1 (sourceCode source) ++ le 1 (rowStateCode rowState) ++ contents

/-- A REPLY from offset 2 (R215). -/
def Reply.body (r : Reply) : List Byte := le 1 r.code ++ le 1 (outcomeCode r.outcome) ++ le 1 r.detail ++ r.args.bytes

/-! ## Records and words -/

/-- The kind code of a record (R210). -/
def Record.kindCode : Record → Nat
  | .point _ => 1
  | .lineBegin .. => 2
  | .lineEnd .. => 3
  | .lineAbandoned .. => 4
  | .photo _ => 5
  | .event _ => 6
  | .reply _ => 7

/-- The bytes of a record from offset 2 (R211 to R215). -/
def Record.body : Record → List Byte
  | .point p => p.body
  | .lineBegin line attempt time azimuth => le 4 line ++ le 2 attempt ++ le 6 time ++ le 3 azimuth
  | .lineEnd line attempt azimuth outcome thinned counted fired offered =>
    le 4 line ++ le 2 attempt ++ le 3 azimuth ++ le 1 (match outcome with | .accepted => 1 | .gap => 2) ++
    flagsByte [thinned] ++ le 1 counted ++ le 4 fired ++ le 4 offered
  | .lineAbandoned line attempt azimuth reason fired =>
    le 4 line ++ le 2 attempt ++ le 3 azimuth ++ le 1 reason.codes.1 ++ le 1 reason.codes.2.1 ++ le 4 reason.codes.2.2 ++
    le 4 fired ++ reason.offered
  | .photo p => p.body
  | .event e => e.body
  | .reply r => r.body

/-- The number of words of a record, the header included (R210). -/
def Record.wordCount (r : Record) : Nat := (2 + r.body.length + 1) / 2

/-- The bytes of a record: the header word, then the body (R210). -/
def Record.bytes (r : Record) : List Byte := le 2 (r.kindCode + 16 * r.wordCount) ++ r.body

/-- Word n of a record: bytes 2n and 2n + 1, byte 2n in the low half; a missing last byte is 0 (R210). -/
def Record.word (r : Record) (n : Nat) : Word16 :=
  BitVec.ofNat 16 ((r.bytes.getD (2 * n) 0).toNat + 256 * (r.bytes.getD (2 * n + 1) 0).toNat)

/-- The data lines of the report port (R185): the word of the head record at the port position, low while VALID is low. -/
def Rps.data (q : Rps) : Word16 :=
  match q.queue with
  | [] => 0
  | r :: _ => r.word q.port

end Sys2Proof.Machine
end

