-- ==== Sys2Proof/Machine/Ops.lean ====
section
/-! DEFINITION. The shared operations: the report stream's entries, events and offers (chapter 10), the command unit's reply
(R192), the line generator and the transmit pending set (R125 to R128). Each is a function of its own block's state; the
State forms below them write that one block. -/

namespace Sys2Proof.Machine

/-! ## Report stream -/

/-- The pending event set with one more occurrence of an event: a new entry in priority order, or the entry of its kind with
count, time and detail brought up to date (R181). -/
def insertEvent (e : Event) (now : Nat) : List PendingEvent → List PendingEvent
  | [] => [⟨e, 1, now⟩]
  | p :: ps =>
    if e.kind < p.event.kind then ⟨e, 1, now⟩ :: p :: ps
    else if e.kind = p.event.kind then ⟨e, if p.count < 255 then p.count + 1 else 255, now⟩ :: ps
    else p :: insertEvent e now ps

/-- A raise, taken into the set unless its kind is masked (R181, R182); the set is not served yet. -/
def Rps.note (c : Settings) (now : Nat) (e : Event) (q : Rps) : Rps :=
  if c.masks e.kind then q else { q with events := insertEvent e now q.events }

/-- The entry of a record does not change the thinning state: it is the EVENT of THINNING_OFF itself (R179). -/
def Record.isThinningOff : Record → Bool
  | .event ⟨.thinningOff _, _, _⟩ => true
  | _ => false

/-- A record enters at the tail (R174). An entry that brings the occupancy to the thin threshold in NORMAL puts RPS in
THINNING and notes THINNING_ON (R179). A record that becomes the head is presented from its first word (R185). -/
def Rps.append (c : Settings) (now : Nat) (r : Record) (q : Rps) : Rps :=
  let q' : Rps := { q with queue := q.queue ++ [r], port := if q.queue.isEmpty then 0 else q.port }
  if !q.thinning && !r.isThinningOff && q'.queue.length == c.thinThreshold then
    Rps.note c now (.thinningOn q'.queue.length) { q' with thinning := true }
  else q'

/-- The pending event set is served while it holds an entry and the queue has room (R183). The set holds at most 20 entries
and serving adds at most THINNING_ON to it, so 32 rounds serve it whole. -/
def Rps.serveRounds (c : Settings) (now : Nat) : Nat → Rps → Rps
  | 0, q => q
  | n + 1, q =>
    match q.events with
    | [] => q
    | e :: es => if q.room then Rps.serveRounds c now n (Rps.append c now (.event e) { q with events := es }) else q

def Rps.serve (c : Settings) (now : Nat) (q : Rps) : Rps := Rps.serveRounds c now 32 q

/-- A record enters and the set is served. -/
def Rps.enter (c : Settings) (now : Nat) (r : Record) (q : Rps) : Rps := (q.append c now r).serve c now

/-- An event is raised: taken into the set, which is then served (R181, R183). -/
def State.raise (e : Event) (s : State) : State :=
  s.withRps ((s.rps.note s.cmu.settings s.time e).serve s.cmu.settings s.time)

/-- An event raised only while the device is RUNNING (R17). -/
def State.raiseInRun (e : Event) (s : State) : State := if s.cmu.device = .running then s.raise e else s

/-- A record enters the queue, which the caller has seen to have room for it. -/
def State.enter (r : Record) (s : State) : State := s.withRps (s.rps.enter s.cmu.settings s.time r)

/-! ## The command unit's reply (R192) -/

/-- CMU offers a REPLY: taken, it enters and READY rises at once; refused, it waits as the current command. -/
def State.sendReply (r : Reply) (s : State) : State :=
  if s.rps.room then
    let t := s.enter (.reply r)
    t.withCmu { t.cmu with ready := true, reply := none }
  else s.withCmu { s.cmu with ready := false, reply := some r }

/-- A reply with an outcome and no detail. -/
def plainReply (code : Nat) (o : ReplyOutcome) : Reply := ⟨code, o, 0, .nothing⟩

/-- The BAD_VALUE of an index, count, row or table name (R215). -/
def argumentReply (code : Nat) : Reply := ⟨code, .badValue, 6, .nothing⟩

/-! ## The congruential generators (R22, R127) -/

/-- The recurrence of the dither generator and of the line generator. -/
def lcg (x : Nat) : Nat := (25173 * x + 13849) % 65536

/-- A draw of the line generator: the present value, and SLC with the generator advanced. No draw is made while it is
unseeded (R127). -/
def Slc.draw (x : Slc) : Nat × Slc :=
  match x.generator with
  | some v => (v, { x with generator := some (lcg v) })
  | none => (0, x)

/-! ## The transmitter (R125, R128, R130) -/

/-- The access timer's length for a backoff, in ticks. -/
def accessTicks (backoff : Nat) : Nat := ticksOfUs (64 + 16 * backoff)

/-- The jam timer's length: 200 ms (R130). -/
def jamTicks : Nat := ticksOfMs 200

/-- The transmitter enters WAIT (R128, R130): a backoff is drawn; with carrier sense low the access timer starts, with
carrier sense high the jam timer. -/
def Slc.enterWait (now : Nat) (x : Slc) : Slc :=
  let b := x.draw.1 * 32 / 65536
  { x.draw.2 with
    tx := .wait
    backoff := b
    access := if x.carrierSense then none else some (now + accessTicks b)
    jam := if x.carrierSense then some (now + jamTicks) else none }

def Slc.isPending (x : Slc) : FrameKind → Bool
  | .hold => x.pendingHold
  | .quiet => x.pendingQuiet
  | .beacon => x.pendingBeacon

/-- The pending set with a kind in it or out of it. -/
def Slc.setPending (x : Slc) (k : FrameKind) (v : Bool) : Slc :=
  match k with
  | .hold => { x with pendingHold := v }
  | .quiet => { x with pendingQuiet := v }
  | .beacon => { x with pendingBeacon := v }

/-- A kind joins the pending set; in IDLE the transmitter enters WAIT (R128). A kind already pending is merged with (R125). -/
def Slc.join (now : Nat) (k : FrameKind) (x : Slc) : Slc :=
  if x.isPending k then x
  else if x.tx = .idle then (x.setPending k true).enterWait now
  else x.setPending k true

/-- A block asks SLC for a frame of a kind (R125). In LEAVING a BEACON request merges with the LEAVING beacon and the others
are dropped; OFFLINE and DUPLICATE drop the request. -/
def Slc.request (now : Nat) (k : FrameKind) (x : Slc) : Slc :=
  if x.membership = .joining ∨ x.membership = .live then x.join now k else x

def State.requestFrame (k : FrameKind) (s : State) : State := s.withSlc (s.slc.request s.time k)

/-- SLC is asked for an immediate BEACON (R132). -/
def State.requestBeacon (s : State) : State := s.requestFrame .beacon

/-! ## Outcome of a command -/

/-- A command acts on a part that has supply; without supply nothing acts (R204). -/
def act (f : State → State) (s : State) : Host.Outcome State Fault Refusal := .next (if s.powered then f s else s)

end Sys2Proof.Machine
end

