-- ==== Sys2Proof/Machine/Angle.lean ====
section
/-! DEFINITION. The Angle Unit (chapter 1): encoder decoding, the angle at an instant, view direction, blind zone, and the
mirror speed monitor, with the first half of the index step and the meanings of ENCODER_EDGE and ABSENCE_TIMER_EXPIRY. -/

namespace Sys2Proof.Machine

/-! ## Encoder decoding (R1 to R5) -/

/-- The pair after (a, b) in the sequence 00, 10, 11, 01 (R2). -/
def nextPair (a b : Bool) : Bool × Bool := (!b, a)

/-- The stability filter cannot accept a pair before 40 ns have passed since it last accepted one (R1). Local time that is
held at its limit (R20) measures no span, and turns no pair away. Log entry 13. -/
def EncoderState.tooSoon (e : EncoderState) (now : Nat) : Bool :=
  match e.acceptTime with
  | some t => decide (now < t + 4 ∧ now < timeLimit)
  | none => false

/-- One more quadrature step seen (R3). -/
def EdgesSeen.bump : EdgesSeen → EdgesSeen
  | .zero => .one
  | .one => .twoOrMore
  | .twoOrMore => .twoOrMore

/-- A quadrature step: the count moves (R2) and the edge history follows (R3). -/
def EncoderState.step (e : EncoderState) (exponent now : Nat) (a b : Bool) : EncoderState :=
  let forward := nextPair e.a e.b = (a, b)
  { e with
    a := a
    b := b
    count := if forward then (e.count + 1) % 2 ^ exponent else (e.count + 2 ^ exponent - 1) % 2 ^ exponent
    interval := match e.edgeTime with | some t => some (now - t) | none => e.interval
    edgeTime := some now
    edgesSeen := e.edgesSeen.bump
    lastDirection := if forward then .forward else .reverse
    acceptTime := some now }

/-- An accepted pair of raw levels (R1): none of the two changed is no edge; one changed is a quadrature step; both changed
takes the pair and suspends interpolation. -/
def EncoderState.accept (e : EncoderState) (exponent now : Nat) (a b : Bool) : EncoderState :=
  if (a, b) = (e.a, e.b) ∨ e.tooSoon now = true then e
  else if a ≠ e.a ∧ b ≠ e.b then { e with a := a, b := b, edgesSeen := .zero, acceptTime := some now }
  else e.step exponent now a b

/-- An index is taken (R4): going FORWARD the count becomes 0; interpolation is suspended. -/
def EncoderState.takeIndex (e : EncoderState) : EncoderState :=
  { e with
    count := if e.lastDirection = .forward then 0 else e.count
    edgesSeen := .zero }

/-- The encoder is restarted for a changed exponent (R5). -/
def EncoderState.restart (e : EncoderState) : EncoderState :=
  { e with count := 0, edgesSeen := .zero, edgeTime := none, interval := none }

def Anu.encoder (x : Anu) : Encoder → EncoderState
  | .mirror => x.mirror
  | .head => x.head

def Anu.setEncoder (x : Anu) (enc : Encoder) (e : EncoderState) : Anu :=
  match enc with
  | .mirror => { x with mirror := e }
  | .head => { x with head := e }

/-- The resolution exponent in force. -/
def Settings.exponent (c : Settings) : Encoder → Nat
  | .mirror => c.mirrorExponent
  | .head => c.headExponent

/-! ## The angle at an instant (R6, R8) -/

/-- The correction that a count selects: the first segment whose running span sum exceeds it (R8). -/
def correctionAt : List CorrectionSegment → Nat → Int
  | [], _ => 0
  | g :: gs, c => if c < g.span then g.correction else correctionAt gs (c - g.span)

/-- The quotient of R6 for an edge at t and an edge interval d. An interval of 0, which only edges at the limit of local time
give (R20), leaves it without a value: a free value. Log entry 39, DESIGN CHOICE. -/
def EncoderState.quotient (e : EncoderState) (span now t d : Nat) : Nat :=
  if d = 0 then Config.freeQuotient e.count span (now - t) else span * (now - t) / d

/-- The interpolation part (R6), within 0..U − 1 whatever the quotient. -/
def EncoderState.interpolation (e : EncoderState) (span now : Nat) : Nat :=
  match e.edgesSeen, e.edgeTime, e.interval with
  | .twoOrMore, some t, some d => min (e.quotient span now t d) (span - 1)
  | _, _, _ => 0

/-- The raw angle (R6). -/
def EncoderState.rawAngle (e : EncoderState) (exponent now : Nat) : Nat :=
  (e.count * 2 ^ (20 - exponent) + e.interpolation (2 ^ (20 - exponent)) now) % revolution

/-- The corrected angle (R8). -/
def EncoderState.angle (e : EncoderState) (exponent now : Nat) : Nat :=
  (((e.rawAngle exponent now : Int) + correctionAt e.correction e.count) % 1048576).toNat

/-- ANU's answer to an angle request at the present instant. -/
def State.angle (s : State) (enc : Encoder) : Nat := (s.anu.encoder enc).angle (s.cmu.settings.exponent enc) s.time

/-! ## View direction and blind zone (R11, R12) -/

/-- A view direction. -/
structure ViewDirection where
  azimuth : Nat
  elevation : Int
deriving DecidableEq, Repr

/-- The view direction of a head azimuth and a mirror angle (R11). -/
def viewDirection (azimuth mirror : Nat) : ViewDirection :=
  if mirror ≤ 524288 then ⟨azimuth, (mirror : Int) - 262144⟩
  else ⟨(azimuth + 524288) % 1048576, 786432 - (mirror : Int)⟩

/-- A mirror angle lies in the blind zone of a half-width (R12). -/
def inBlindZone (halfWidth mirror : Nat) : Bool := decide (mirror ≤ halfWidth ∨ revolution - halfWidth ≤ mirror)

/-! ## The mirror monitor (R14 to R17) -/

/-- The judgement of a revolution period in ticks against the limits in force, none when it is in range (R14). -/
def judgePeriod (c : Settings) (period : Nat) : Option MirrorCause :=
  if period < c.periodLow * 100 then some .short
  else if c.periodHigh * 100 < period then some .long
  else none

/-- The length of the absence timer and of the attempt limit: 2 × high µs. -/
def Settings.absenceTicks (c : Settings) : Nat := ticksOfUs (2 * c.periodHigh)

/-- The monitor after a measured period (R15, R16), and the event it gives. -/
def Anu.judge (c : Settings) (now period : Nat) (x : Anu) : Anu × Option Event :=
  match x.monitor, judgePeriod c period with
  | .ok, none => ({ x with absence := some (now + c.absenceTicks) }, none)
  | .ok, some cause => ({ x with monitor := .fault, absence := none, inRangeRun := 0 }, some (.mirrorFault cause (some (period / 100))))
  | .spinup, none =>
    if x.inRangeRun + 1 < 3 then ({ x with inRangeRun := x.inRangeRun + 1 }, none)
    else ({ x with monitor := .ok, inRangeRun := 0, absence := some (now + c.absenceTicks) }, none)
  | .fault, none =>
    if x.inRangeRun + 1 < 3 then ({ x with inRangeRun := x.inRangeRun + 1 }, none)
    else ({ x with monitor := .ok, inRangeRun := 0, absence := some (now + c.absenceTicks) }, some (.mirrorOk (period / 100)))
  | .spinup, some _ => ({ x with inRangeRun := 0 }, none)
  | .fault, some _ => ({ x with inRangeRun := 0 }, none)

/-- A mirror index is judged (R14): the first after a reset is recorded and no period is judged. -/
def Anu.monitorIndex (c : Settings) (now : Nat) (x : Anu) : Anu × Option Event :=
  match x.previousIndex with
  | none => ({ x with previousIndex := some now }, none)
  | some p => Anu.judge c now (now - p) { x with previousIndex := some now }

/-- Raise an event, if there is one, while the device is RUNNING (R17). -/
def State.raiseOption (e : Option Event) (s : State) : State :=
  match e with
  | some e => s.raiseInRun e
  | none => s

/-- ANU's part of an index (R4): the count and the edge history; for the mirror the period judged. -/
def State.anuIndex (enc : Encoder) (s : State) : State :=
  let x := s.anu.setEncoder enc (s.anu.encoder enc).takeIndex
  match enc with
  | .head => s.withAnu x
  | .mirror =>
    let j := x.monitorIndex s.cmu.settings s.time
    (s.withAnu j.1).raiseOption j.2

/-- The effect of ENCODER_EDGE. -/
def encoderEdgeAct (enc : Encoder) (a b : Bool) (s : State) : State :=
  s.withAnu (s.anu.setEncoder enc ((s.anu.encoder enc).accept (s.cmu.settings.exponent enc) s.time a b))

/-- ENCODER_EDGE (R1 to R3). -/
def execEncoderEdge (enc : Encoder) (a b : Bool) (s : State) : Host.Outcome State Fault Refusal :=
  act (encoderEdgeAct enc a b) s

/-- The effect of ABSENCE_TIMER_EXPIRY. -/
def absenceAct (s : State) : State :=
  if s.anu.monitor = .ok ∧ due s.anu.absence s.time = true then
    (s.withAnu { s.anu with monitor := .fault, inRangeRun := 0, absence := none }).raiseInRun (.mirrorFault .absent none)
  else s

/-- ABSENCE_TIMER_EXPIRY (R16). -/
def execAbsenceTimerExpiry (s : State) : Host.Outcome State Fault Refusal := act absenceAct s

end Sys2Proof.Machine
end

