-- ==== Sys2Proof/Machine/Points.lean ====
section
/-! DEFINITION. The colour lookup of PHC (section 5.7) and the Point Assembler (chapter 4): continuity, return selection, the
point record and its offer, and PTA's side of a line attempt. -/

namespace Sys2Proof.Machine

/-! ## Colour lookup (R91 to R93) -/

/-- An entry contains a view direction (R92), with the camera's geometry as it stands at the lookup. -/
def Photo.contains (g : CameraGeometry) (p : Photo) (v : ViewDirection) : Bool :=
  decide ((wrapDiff v.azimuth p.azimuth).natAbs ≤ g.halfWidthAz ∧ (v.elevation - p.elevation).natAbs ≤ g.halfWidthEl)

/-- The pixel of a contained direction (R93). -/
def Photo.pixel (g : CameraGeometry) (p : Photo) (v : ViewDirection) : ColourRef where
  photo := p.number
  column := (clampInt 0 ((g.width : Int) - 1) (g.centreCol + roundDiv (wrapDiff v.azimuth p.azimuth * 256) g.pitchAz)).toNat
  row := (clampInt 0 ((g.height : Int) - 1) (g.centreRow - roundDiv ((v.elevation - p.elevation) * 256) g.pitchEl)).toNat

/-- The geometry of a camera. -/
def Phc.camera (x : Phc) (n : Nat) : CameraGeometry := (x.cameras[n]?).getD .absent

/-- The search over entries given newest first (R91). -/
def searchEntries (x : Phc) (v : ViewDirection) : List Photo → Option ColourRef
  | [] => none
  | p :: ps =>
    if !p.aborted && (x.camera p.camera).present && p.contains (x.camera p.camera) v then some (p.pixel (x.camera p.camera) v)
    else searchEntries x v ps

/-- The colour reference of a view direction (R91). -/
def Phc.lookup (x : Phc) (v : ViewDirection) : Option ColourRef := searchEntries x v x.catalogue.reverse

/-! ## Continuity (R65 to R69) -/

/-- A range agrees with a neighbour (R65). -/
def ClosedShot.agrees (n : ClosedShot) (tolerance range : Nat) : Bool :=
  n.returns.any fun r => decide (((range : Int) - r.range).natAbs ≤ tolerance)

/-- A return is confirmed (R66 to R68). -/
def confirmed (c : Settings) (left right : Option ClosedShot) (range : Nat) : Bool :=
  match c.continuity with
  | .off => true
  | .oneSide => left.any (·.agrees c.tolerance range) || right.any (·.agrees c.tolerance range)
  | .both =>
    (left.isSome || right.isSome) && left.all (·.agrees c.tolerance range) && right.all (·.agrees c.tolerance range)

/-- A return after the unconfirmed action (R69). -/
def qualify (c : Settings) (left right : Option ClosedShot) (r : Return) : Option PointReturn :=
  if confirmed c left right r.range then some ⟨r.range, r.amplitude, false⟩
  else match c.unconfirmed with
    | .mark => some ⟨r.range, r.amplitude, true⟩
    | .drop => none

/-- The surviving returns of the held shot (R69). -/
def surviving (c : Settings) (left right : Option ClosedShot) (rs : List Return) : List PointReturn :=
  rs.filterMap (qualify c left right)

/-! ## Selection (R70) -/

/-- The first return that no later one betters. -/
def pickBest (better : PointReturn → PointReturn → Bool) : List PointReturn → List PointReturn
  | [] => []
  | r :: rs => [rs.foldl (fun best x => if better x best then x else best) r]

/-- Return selection by the attempt's return mode (R70). -/
def select (mode : ReturnMode) (rs : List PointReturn) : List PointReturn :=
  match mode with
  | .first => pickBest (fun x y => decide (x.range < y.range)) rs
  | .last => pickBest (fun x y => decide (y.range < x.range)) rs
  | .strongest =>
    pickBest (fun x y => decide (y.amplitude < x.amplitude ∨ (x.amplitude = y.amplitude ∧ x.range < y.range))) rs
  | .all => rs

/-! ## Building and offering the point (R72 to R75) -/

/-- A neighbour is present and was a missing shot. -/
def missingNeighbour (n : Option ClosedShot) : Bool := n.any (·.missing)

/-- The point record of the held shot (R74). -/
def buildPoint (x : Phc) (thinned : Bool) (left : Option ClosedShot) (h : ClosedShot) (right : Option ClosedShot)
    (returns : List PointReturn) : PointRecord where
  line := h.shot.line
  attempt := h.shot.attempt
  index := h.shot.index
  fireTime := h.shot.fireTime
  mirrorAngle := h.shot.mirrorAngle
  headAzimuth := h.shot.headAzimuth
  thinned := thinned
  moreEchoes := h.moreEchoes
  missing := missingNeighbour left || missingNeighbour right
  returns := returns
  colour := x.lookup (viewDirection h.shot.headAzimuth h.shot.mirrorAngle)

/-- The dirty mark set, unless it already stands (R60, R75). -/
def PointContext.markDirty (ctx : PointContext) (cause : DirtyCause) (shot : Nat) : PointContext :=
  { ctx with dirty := match ctx.dirty with | some d => some d | none => some ⟨cause, shot⟩ }

/-- PTA offers a built record to RPS (R75, R175): counted whatever the outcome; a refusal marks the attempt dirty. -/
def State.offerPoint (ctx : PointContext) (p : PointRecord) (s : State) : State :=
  let counted := { ctx with offered := ctx.offered + 1 }
  if s.rps.occupancy < pointLimit then
    (s.withPta { s.pta with context := some counted }).enter (.point p)
  else s.withPta { s.pta with context := some (counted.markDirty .refused p.index) }

/-- PTA judges the held shot between its neighbours (R65 to R75). -/
def State.judgeShot (left : Option ClosedShot) (h : ClosedShot) (right : Option ClosedShot) (s : State) : State :=
  match s.pta.context with
  | none => s
  | some ctx =>
    let kept := select ctx.mode (surviving s.cmu.settings left right h.returns)
    if kept.isEmpty then s
    else if s.rps.thinning then
      if h.shot.index % 2 = 0 then
        s.offerPoint { ctx with thinned := true } (buildPoint s.phc true left h right kept)
      else s.withPta { s.pta with context := some { ctx with thinned := true } }
    else s.offerPoint ctx (buildPoint s.phc false left h right kept)

/-! ## The attempt seen from PTA (R57 to R64) -/

/-- The open notice (R57). -/
def State.ptaOpen (line attempt : Nat) (mode : ReturnMode) (s : State) : State :=
  s.withPta { s.pta with predecessor := none, held := none, context := some ⟨line, attempt, mode, none, 0, false⟩ }

/-- An accepted shot enters the window (R59). -/
def State.ptaAdmit (c : ClosedShot) (s : State) : State :=
  match s.pta.held with
  | none => s.withPta { s.pta with held := some c }
  | some h =>
    let t := s.judgeShot s.pta.predecessor h (some c)
    t.withPta { t.pta with predecessor := some h, held := some c }

/-- PTA takes a shot that RGU hands it (R58, R60). -/
def State.ptaTake (c : ClosedShot) (s : State) : State :=
  match s.pta.context with
  | none => s
  | some ctx =>
    if c.shot.line = ctx.line ∧ c.shot.attempt = ctx.attempt then
      let ctx' := if c.missing then ctx.markDirty .missing c.shot.index else ctx
      (s.withPta { s.pta with context := some ctx' }).ptaAdmit c
    else s

/-- PTA finishes an ENDED attempt (R61, R76): the held shot is judged, the window emptied, the finish report sent and the
context closed. -/
def State.ptaFinish (s : State) : State :=
  let t := match s.pta.held with
    | none => s
    | some h => s.judgeShot s.pta.predecessor h none
  t.withPta
    { predecessor := none, held := none, context := none
      report := t.pta.context.map fun ctx => ⟨ctx.line, ctx.attempt, ctx.dirty, ctx.offered, ctx.thinned⟩ }

/-- PTA takes the end of an attempt (R61 to R63). -/
def State.ptaEnd (kind : EndKind) (line attempt : Nat) (s : State) : State :=
  match s.pta.context with
  | none => s
  | some ctx =>
    if ctx.line = line ∧ ctx.attempt = attempt then
      match kind with
      | .ended => s.ptaFinish
      | .abandoned => s.withPta { s.pta with predecessor := none, held := none, context := none }
    else s

/-- PTA at the end of a run (R64); a finish report not yet taken is dropped, since the walker ignores it from then on. -/
def State.ptaRunEnd (s : State) : State := s.withPta ⟨none, none, none, none⟩

end Sys2Proof.Machine
end

