-- ==== Sys2Proof/Machine/Ranging.lean ====
section
/-! DEFINITION. The Range Unit (chapter 3): the open-shot list, pairing, the range chain, the proximity check, and RGU's side
of a line attempt. -/

namespace Sys2Proof.Machine

/-! ## Ranging one echo (R49 to R53) -/

/-- The walk of an amplitude (R49). -/
def walkOf (w : Vector Int 16) (amplitude : Nat) : Int :=
  let j := amplitude / 256
  let wj := (w[j]?).getD 0
  if 15 ≤ j then (w[15]?).getD 0
  else wj + (((w[j + 1]?).getD 0 - wj) * ((amplitude % 256 : Nat) : Int)) / 256

/-- The corrected ToF t_c (R50). -/
def correctedTof (x : Rgu) (e : Echo) : Int := (e.tof : Int) - x.range.zero - walkOf x.walk e.amplitude

/-- The range of an echo, none when it is internal (R50, R51). -/
def Rgu.rangeOf (x : Rgu) (e : Echo) : Option Nat :=
  if correctedTof x e ≤ 0 then none
  else some (((correctedTof x e).toNat * x.effectiveScale + 32768) / 65536)

/-- The range gate (R53). -/
def inGate (c : Settings) (r : Nat) : Bool := decide (c.minRange ≤ r ∧ r ≤ c.maxRange)

/-- A return in its place in order of increasing range, after those of equal range (R54). -/
def insertReturn (r : Return) : List Return → List Return
  | [] => [r]
  | x :: xs => if r.range < x.range then r :: x :: xs else x :: insertReturn r xs

/-- The return an echo becomes, none when it is internal or gated. -/
def Rgu.returnOf (c : Settings) (x : Rgu) (e : Echo) : Option Return :=
  match x.rangeOf e with
  | some r => if inGate c r then some ⟨r, e.amplitude⟩ else none
  | none => none

/-- The returns of the kept echoes, in order of increasing range (R54). -/
def Rgu.returns (c : Settings) (x : Rgu) (es : List Echo) : List Return :=
  (es.filterMap (x.returnOf c)).foldl (fun acc r => insertReturn r acc) []

/-- A proximity hit as RGU raises it to PWK (R52). -/
structure ProximityHit where
  range : Nat
  line : Nat
  attempt : Nat
  fireTime : Nat
deriving DecidableEq, Repr

/-- The attempt record watches a shot: its attempt, its watch setting yes, no hit raised yet (R52). -/
def RangeRecord.watches (r : RangeRecord) (sh : Shot) : Bool :=
  r.watch && !r.hitRaised && r.line == sh.line && r.attempt == sh.attempt

/-- The hit that the kept echoes of a shot's set raise, if any: the first ranged echo below the proximity limit (R52). -/
def Rgu.hitOf (c : Settings) (x : Rgu) (sh : Shot) (es : List Echo) : Option ProximityHit :=
  if x.record.any (·.watches sh) then
    ((es.filterMap x.rangeOf).find? fun r => decide (r < c.proximityLimit)).map fun r => ⟨r, sh.line, sh.attempt, sh.fireTime⟩
  else none

/-! ## The open-shot list (R41 to R46) -/

/-- A shot closed as missing goes to PTA (R45). -/
def State.closeMissing (sh : Shot) (s : State) : State := s.ptaTake ⟨sh, true, false, []⟩

/-- Shots closed as missing, in order. -/
def State.closeAllMissing : List Shot → State → State
  | [], s => s
  | sh :: rest, s => State.closeAllMissing rest (s.closeMissing sh)

/-- EMT opens a shot in RGU (R41): appended unless its attempt has ended here; a list of three closes its oldest. -/
def State.rguFire (sh : Shot) (s : State) : State :=
  if s.rgu.record.any fun r => r.line == sh.line && r.attempt == sh.attempt then
    match s.rgu.openShots ++ [sh] with
    | a :: b :: c :: rest => (s.withRgu { s.rgu with openShots := b :: c :: rest }).closeMissing a
    | shots => s.withRgu { s.rgu with openShots := shots }
  else s

/-- PWK's open notice at RGU (R44). -/
def State.rguOpen (line attempt : Nat) (watch : Bool) (s : State) : State :=
  s.withRgu { s.rgu with record := some ⟨line, attempt, watch, false⟩ }

/-- PWK's end notice at RGU (R44): the open shots are closed as missing, the end passed on to PTA, the record closed. -/
def State.rguEnd (kind : EndKind) (line attempt : Nat) (s : State) : State :=
  let t := ((s.withRgu { s.rgu with openShots := [] }).closeAllMissing s.rgu.openShots).ptaEnd kind line attempt
  t.withRgu { t.rgu with record := none }

/-- RGU at the end of a run (R46). -/
def State.rguRunEnd (s : State) : State := s.withRgu { s.rgu with openShots := [], record := none }

/-! ## Echo sets (R38 to R43) -/

/-- The ToFs of a set strictly increase (R39). -/
def strictlyIncreasing : List Echo → Bool
  | [] => true
  | [_] => true
  | x :: y :: rest => decide (x.tof < y.tof) && strictlyIncreasing (y :: rest)

/-- The open shot of a tag with the shots older and younger than it. -/
def splitAtTag (tag : Nat) : List Shot → Option (List Shot × Shot × List Shot)
  | [] => none
  | sh :: rest =>
    if sh.tag = tag then some ([], sh, rest)
    else (splitAtTag tag rest).map fun p => (sh :: p.1, p.2)

/-- The attempt record with a hit raised. -/
def Rgu.hitTaken (x : Rgu) (hit : Option ProximityHit) : Rgu :=
  match hit with
  | some _ => { x with record := x.record.map fun r => { r with hitRaised := true } }
  | none => x

/-- The set closes its shot (R42): older shots are closed as missing, the kept echoes ranged, the shot handed to PTA. The
hit that ranging raised is answered beside the state, for PWK to take once RGU has handed on its shots (R38). -/
def State.closeBySet (e : EchoSet) (older : List Shot) (sh : Shot) (younger : List Shot) (s : State) :
    State × Option ProximityHit :=
  let t := (s.withRgu { s.rgu with openShots := younger }).closeAllMissing older
  let kept := e.echoes.take 4
  let hit := t.rgu.hitOf t.cmu.settings sh kept
  let shot : ClosedShot := ⟨sh, false, decide (4 < e.echoes.length), t.rgu.returns t.cmu.settings kept⟩
  ((t.withRgu (t.rgu.hitTaken hit)).ptaTake shot, hit)

/-- A complete echo set taken in RUNNING (R39 to R43). -/
def State.takeSet (e : EchoSet) (s : State) : State × Option ProximityHit :=
  if e.count = 7 then (s.raise (.echoSlip .format e.tag), none)
  else if strictlyIncreasing e.echoes = false then (s.raise (.echoSlip .order e.tag), none)
  else match splitAtTag e.tag s.rgu.openShots with
    | none => (s.raise (.echoSlip .unmatched e.tag), none)
    | some (older, sh, younger) => s.closeBySet e older sh younger

/-! ## The effective scale (R48) -/

/-- K_eff for a scale and an atmospheric correction. -/
def effectiveScaleOf (scale : Nat) (ppm : Int) : Nat := ((scale : Int) + roundDiv (scale * ppm) 1000000).toNat

end Sys2Proof.Machine
end

