-- ==== Sys2Proof/Machine/Photo.lean ====
section
/-! DEFINITION. The Photo Controller's sequence (chapter 5): the walker request, settle, the quiet request, grants, exposure,
release, abort, the catalogue and the outgoing list. What PHC tells the walker is answered beside the state. -/

namespace Sys2Proof.Machine

/-- PHC's answer to a walker request (R113). -/
inductive Completion where
  | taken (photos : PhotoRange)
  | empty
  | refused
deriving DecidableEq, Repr

/-- The cameras of a set, in increasing number. -/
def camerasOf (m : CameraSet) : List Nat := (List.range 4).filter fun n => m.getLsbD n

/-- The present cameras of a mask (R80). -/
def Phc.presentMask (x : Phc) (m : CameraSet) : CameraSet :=
  (camerasOf m).foldl (fun acc n => if (x.camera n).present then acc ||| (1#4 <<< n) else acc) 0#4

/-- The longest of the cameras' values over a set. -/
def longest (m : CameraSet) (v : Vector Nat 4) : Nat := (camerasOf m).foldl (fun acc n => max acc ((v[n]?).getD 0)) 0

/-- The length W of a quiet request for a longest exposure in µs (R82). -/
def requestLength (exposure : Nat) : Nat := min (250 + (exposure + 999) / 1000 + 20) 470

/-- Stations of the expected set outside the granted set, in increasing number. -/
def Phc.ungranted (x : Phc) : List Nat := x.expected.filter fun n => !x.granted.contains n

/-- Every station of the expected set is in the granted set (R85). -/
def Phc.fullGrant (x : Phc) : Bool := x.ungranted.isEmpty

/-- The exposure record as EXPOSE is entered (R86). -/
def exposureAtStart (m : CameraSet) (lengths : Vector Nat 4) (now head : Nat) (ungranted : List Nat) : ExposureRecord where
  startTime := some now
  headAzimuth := some head
  ungranted := ungranted
  cameras := Vector.ofFn fun n : Fin 4 =>
    if m.getLsbD n then ⟨true, lengths[n], false⟩ else ⟨false, 0, false⟩

/-- PHC enters EXPOSE (R86). No expected set is kept after the ungranted list is taken (R84). -/
def State.expose (s : State) : State :=
  s.withPhc { s.phc with
    sequence := .expose
    exposure := exposureAtStart s.phc.effectiveMask s.cmu.settings.exposure s.time (s.angle .head) s.phc.ungranted
    expected := []
    granted := []
    timer := some (s.time + ticksOfUs (longest s.phc.effectiveMask s.cmu.settings.exposure)) }

/-- A full grant ends the grant wait (R85). -/
def State.checkGrant (s : State) : State :=
  if s.phc.sequence = .grantWait ∧ s.phc.fullGrant = true then s.expose else s

/-- A frame already in sending was composed before the entry to GRANT_WAIT, and its end is no notice of it (R83). -/
def Slc.forgetQuiet (x : Slc) : Slc := { x with frame := x.frame.map fun f => { f with inGrantWait := false } }

/-- The end of settle (R82), and the full grant of an empty expected set (R85). -/
def State.endSettle (s : State) : State :=
  let w := requestLength (longest s.phc.effectiveMask s.cmu.settings.exposure)
  let t := ((s.withPhc { s.phc with requestW := w, requestSent := false }).withSlc s.slc.forgetQuiet).requestFrame .quiet
  (t.withPhc { t.phc with
    sequence := .grantWait
    expected := t.pru.liveStations
    granted := []
    timer := some (t.time + ticksOfMs 250) }).checkGrant

/-- PHC enters SETTLE for an effective mask (R81); a settle time of 0 ends at once. -/
def State.enterSettle (m : CameraSet) (s : State) : State :=
  let d := longest m s.cmu.settings.settle
  let t := s.withPhc { s.phc with
    sequence := .settle
    effectiveMask := m
    ownQuiet := true
    timer := some (s.time + ticksOfMs d) }
  if d = 0 then t.endSettle else t

/-- PHC stands in EXPOSE after a release or an abort (R88, R90). -/
def Phc.draining (x : Phc) : Bool := x.sequence == .expose && !x.ownQuiet

/-- A walker request (R80), with the completion given at once, if any. -/
def State.photoRequest (m : CameraSet) (s : State) : State × Option Completion :=
  if s.phc.sequence = .idle then
    if s.phc.presentMask m = 0 then (s.withPhc { s.phc with effectiveMask := 0 }, some .empty)
    else (s.enterSettle (s.phc.presentMask m), none)
  else if s.phc.draining then (s.withPhc { s.phc with heldRequest := some m }, none)
  else (s, some .refused)

/-! ## The catalogue (R89) -/

/-- The catalogue with an entry added: the newest 64 are held. -/
def addEntry (p : Photo) (catalogue : List Photo) : List Photo :=
  (if 64 ≤ catalogue.length then catalogue.drop 1 else catalogue) ++ [p]

/-- The next photo number after one is given: 4,294,967,295 is the last. -/
def followingNumber (n : Nat) : Option Nat := if n < 4294967295 then some (n + 1) else none

/-- What an entry records besides its number: the contents of R88 and R90 for one camera. -/
def Phc.entryFor (x : Phc) (camera length : Nat) (aborted : Bool) (number : Nat) : Photo where
  number := number
  camera := camera
  azimuth := (x.exposure.headAzimuth.getD 0 + (x.camera camera).azOffset) % 1048576
  elevation := (x.camera camera).elevation
  startTime := x.exposure.startTime.getD 0
  length := length
  ungranted := x.exposure.ungranted
  peerLit := ((x.exposure.cameras[camera]?).map (·.peerLit)).getD false
  aborted := aborted

/-- Entries for cameras in order, each with the next photo number while there is one (R89), with the entries made. -/
def Phc.makeEntries (aborted : Bool) (length : Nat → Nat) : List Nat → Phc → Phc × List Photo
  | [], x => (x, [])
  | n :: rest, x =>
    match x.nextNumber with
    | none => Phc.makeEntries aborted length rest x
    | some k =>
      let p := x.entryFor n (length n) aborted k
      let r := Phc.makeEntries aborted length rest
        { x with catalogue := addEntry p x.catalogue, nextNumber := followingNumber k }
      (r.1, p :: r.2)

/-- The recorded exposure length of a camera. -/
def Phc.recordedLength (x : Phc) (n : Nat) : Nat := ((x.exposure.cameras[n]?).map (·.length)).getD 0

/-! ## The outgoing list (R88, R176) -/

/-- PHC offers PHOTO records, head first; those the queue has no room for stay in the outgoing list. -/
def State.offerPhotos : List Photo → State → State
  | [], s => s.withPhc { s.phc with outgoing := [] }
  | p :: ps, s =>
    if s.rps.room then State.offerPhotos ps (s.enter (.photo p)) else s.withPhc { s.phc with outgoing := p :: ps }

/-- PHOTO records join the outgoing list, which is offered unless its head already waits. -/
def State.queuePhotos (ps : List Photo) (s : State) : State :=
  if s.phc.outgoing.isEmpty then s.offerPhotos ps else s.withPhc { s.phc with outgoing := s.phc.outgoing ++ ps }

/-- All triggers low. -/
def ExposureRecord.lower (e : ExposureRecord) : ExposureRecord :=
  { e with cameras := e.cameras.map fun c => { c with trigger := false } }

/-- The release (R88) up to the offer of its records. -/
def State.release (s : State) : State :=
  let t := (s.withPhc { s.phc with requestW := 0 }).requestFrame .quiet
  let made := Phc.makeEntries false t.phc.recordedLength (camerasOf t.phc.effectiveMask)
    { t.phc with ownQuiet := false, timer := none, exposure := t.phc.exposure.lower }
  (t.withPhc { made.1 with owed := some ⟨made.2.head?.map (·.number), made.2.getLast?.map (·.number)⟩ }).queuePhotos made.2

/-! ## Abort (R90) -/

/-- The µs a camera's trigger has been high at an abort in EXPOSE, up to its full exposure. -/
def Phc.abortedLength (x : Phc) (now n : Nat) : Nat :=
  min ((now - x.exposure.startTime.getD now) / 100) (x.recordedLength n)

/-- PHC's exposure record as an abort leaves it, by the state it finds (R90). -/
def State.abortRecord (s : State) : ExposureRecord :=
  match s.phc.sequence with
  | .expose => s.phc.exposure.lower
  | .grantWait => ⟨some s.time, some (s.angle .head), s.phc.ungranted, .replicate 4 ⟨false, 0, false⟩⟩
  | _ => ⟨some s.time, some (s.angle .head), [], .replicate 4 ⟨false, 0, false⟩⟩

/-- PHC is IDLE once the outgoing list is empty. -/
def State.idleIfDrained (s : State) : State :=
  if s.phc.outgoing.isEmpty then s.withPhc { s.phc with sequence := .idle } else s

/-- An end of run by STOP or DUPLICATE aborts a sequence that is not IDLE (R90). No completion goes to PWK, and no expected
set is kept (R84). -/
def State.photoAbort (s : State) : State :=
  if s.phc.sequence = .idle then s
  else if s.phc.draining then
    s.withPhc { s.phc with owed := none, heldRequest := none, requestW := 0, timer := none, expected := [], granted := [] }
  else
    let lengths := fun n => if s.phc.sequence = .expose then s.phc.abortedLength s.time n else 0
    let made := Phc.makeEntries true lengths (camerasOf s.phc.effectiveMask)
      { s.phc with
        sequence := .expose
        exposure := s.abortRecord
        ownQuiet := false
        timer := none
        requestW := 0
        expected := []
        granted := []
        owed := none
        heldRequest := none }
    ((s.withPhc made.1).queuePhotos made.2).idleIfDrained

/-! ## Notices from PRU and SLC (R83, R84, R87) -/

/-- The beacon notice in GRANT_WAIT (R83) keeps the granted set. -/
def Phc.noteGrant (x : Phc) (station : Nat) (listed : Bool) : Phc :=
  if x.requestSent && x.expected.contains station then
    if listed then { x with granted := if x.granted.contains station then x.granted else x.granted ++ [station] }
    else { x with granted := x.granted.filter fun n => n != station }
  else x

/-- A beacon with its firing flag set marks every camera whose trigger is high (R87). -/
def ExposureRecord.light (e : ExposureRecord) : ExposureRecord :=
  { e with cameras := e.cameras.map fun c => { c with peerLit := c.peerLit || c.trigger } }

/-- PHC takes a beacon notice (R83, R87). -/
def State.beaconNotice (station : Nat) (listed firing : Bool) (s : State) : State :=
  match s.phc.sequence with
  | .grantWait => (s.withPhc (s.phc.noteGrant station listed)).checkGrant
  | .expose => if firing then s.withPhc { s.phc with exposure := s.phc.exposure.light } else s
  | _ => s

/-- PHC takes a removal notice (R84). -/
def State.removalNotice (station : Nat) (s : State) : State :=
  if s.phc.sequence = .grantWait then
    (s.withPhc { s.phc with
      expected := s.phc.expected.filter fun n => n != station
      granted := s.phc.granted.filter fun n => n != station }).checkGrant
  else s

/-- PHC takes SLC's notice that a QUIET frame has left the line (R83). -/
def State.quietSent (inGrantWait : Bool) (s : State) : State :=
  if inGrantWait = true ∧ s.phc.sequence = .grantWait then s.withPhc { s.phc with requestSent := true } else s

end Sys2Proof.Machine
end

