-- ==== Sys2Proof/Machine/RunEnd.lean ====
section
/-! DEFINITION. Joining and leaving the site line (R133, R134, R146, R149), EMT's side of a line attempt (R26, R27), the
walker's outgoing record (R105), and the end of a run at every block (R24, R46, R64, R90, R119, R133, R149, R197, R198). -/

namespace Sys2Proof.Machine

/-! ## The line at START, leave and DUPLICATE (R127, R133, R134) -/

/-- The seed of the line generator (R127). -/
def lineSeed (station startTime : Nat) : Nat := (1021 * station + startTime % 65536) % 65536

/-- SLC as membership becomes JOINING (R134): counters and jam flag cleared, the generator seeded, the assembler in HUNT, the
first BEACON pending. -/
def Slc.enterJoining (now station startTime : Nat) (x : Slc) : Slc :=
  Slc.join now .beacon { x with
    membership := .joining
    counters := ⟨0, 0, 0, 0, 0⟩
    jamReported := false
    generator := some (lineSeed station startTime)
    assembler := .hunt false
    byteGap := none
    rejoin := false }

/-- A START taken during a leave (R134): the generator is reseeded, counters and jam flag cleared, and JOINING follows. -/
def Slc.startInLeave (station startTime : Nat) (x : Slc) : Slc :=
  { x with
    counters := ⟨0, 0, 0, 0, 0⟩
    jamReported := false
    generator := some (lineSeed station startTime)
    rejoin := true }

/-- Membership becomes JOINING, and the join window begins (R134, R146). -/
def State.enterJoining (s : State) : State :=
  let t := s.withSlc (s.slc.enterJoining s.time (s.cmu.settings.station.getD 0) (s.emt.startTime.getD 0))
  t.withPru { t.pru with joinTimer := some (t.time + ticksOfMs 300) }

/-- The leave procedure (R133). A run that ends while its own START still waits for an earlier leave cancels the change to
JOINING and leaves that leave as it is (R134). -/
def Slc.leave (now : Nat) (x : Slc) : Slc :=
  if x.membership = .leaving then { x with rejoin := false }
  else
    Slc.join now .beacon { x with
      membership := .leaving
      pendingHold := false
      pendingQuiet := false
      beaconTimer := none
      leaveTimer := some (now + ticksOfMs 50)
      rejoin := false
      assembler := .hunt false
      byteGap := none }

/-- The leave has ended (R133, R134): membership OFFLINE, or JOINING where a START waits for it. -/
def State.leaveEnded (s : State) : State :=
  let x := { s.slc with leaveTimer := none, tx := .idle, access := none, jam := none, pendingBeacon := false }
  if x.rejoin then (s.withSlc x).enterJoining else s.withSlc { x with membership := .offline }

/-- SLC as membership becomes DUPLICATE (R134). -/
def Slc.becomeDuplicate (x : Slc) : Slc :=
  { x with
    membership := .duplicate
    pendingHold := false
    pendingQuiet := false
    pendingBeacon := false
    tx := .idle
    access := none
    jam := none
    beaconTimer := none
    leaveTimer := none
    rejoin := false
    frame := none
    assembler := .hunt false
    byteGap := none }

/-- PRU empties the peer table (R149). -/
def State.emptyTable (s : State) : State := s.withPru Pru.reset

/-! ## EMT's side of an attempt and of the run (R24, R26, R27, R33, R37) -/

/-- The open notice (R26). -/
def State.emtOpen (line attempt : Nat) (g : Segment) (s : State) : State :=
  s.withEmt { s.emt with context := some ⟨line, attempt, g.mFrom, g.mTo, g.divisor, 0, 0, false⟩ }

/-- The fired count that a close notice returns (R27, R37). -/
def Emt.closeCount (x : Emt) : Nat :=
  match x.context with
  | some ctx => ctx.fired
  | none => x.keptFired.getD 0

/-- The close notice at EMT (R27, R37). -/
def State.emtClose (s : State) : State := s.withEmt { s.emt with context := none, keptFired := none }

/-- EMIT falls, and with it the firing flag a beacon would carry (R33, R132). -/
def State.emitFall (s : State) : State :=
  if s.emt.emit.isSome then (s.withEmt { s.emt with emit := none }).requestBeacon else s

/-- EMT at the end of a run (R24, R33, R37). -/
def State.emtRunEnd (s : State) : State :=
  (s.withEmt { s.emt with
    schedule := none
    generator := none
    startTime := none
    keptFired := s.emt.context.map (·.fired)
    context := none }).emitFall

/-! ## The walker's outgoing record (R105) -/

/-- The walker places a record in its outgoing record and offers it: taken at once where the queue has room. -/
def State.placeRecord (r : Record) (s : State) : State :=
  if s.rps.room then (s.withPwk { s.pwk with outgoing := none }).enter r
  else s.withPwk { s.pwk with outgoing := some r }

/-! ## Closing and ending an attempt (R106, R109) -/

/-- The attempt limit stops, and the close notice goes to EMT. -/
def State.closeNotice (s : State) : State := (s.withPwk { s.pwk with attemptLimit := none }).emtClose

/-- The close notice to EMT and the end notice to RGU. -/
def State.endNotices (kind : EndKind) (a : AttemptRecord) (s : State) : State :=
  s.closeNotice.rguEnd kind a.line a.attempt

/-- The record of an abandonment goes before RGU's flush of the open shots and the judgement it brings, or after them, as a
free value says; with no open shot nothing hangs on the order (R62, R110). Log entry 36. -/
def State.recordFirst (s : State) : Bool := !s.rgu.openShots.isEmpty && !Config.freeAbandonOrder s.draws

/-- The draw of that free value, made where an open shot makes it matter. -/
def State.orderDrawn (s : State) : State := if s.rgu.openShots.isEmpty then s else s.drawn

/-- The fired count of an attempt: recorded at its ending index, or returned by EMT now. -/
def State.firedOf (a : AttemptRecord) (s : State) : Nat := a.fired.getD s.emt.closeCount

/-! ## The end of the run -/

/-- The walker enters IDLE and its run state is cleared (R119); the plan, the line counter, the head position command and the
outgoing record are kept. R119 says nothing of the segment context, the current record index and the attempt number, which
STATUS shows: the segment context is emptied, so that the counted attempts read 0, and the other two are kept. Log entry 37,
DESIGN CHOICE. -/
def Pwk.toIdle (x : Pwk) : Pwk :=
  { x with
    state := .idle
    armed := false
    pausePending := false
    ownHold := none
    saved := none
    segment := none
    counters := .replicate 64 none
    attempt := none
    slew := { x.slew with faultTimer := none }
    attemptLimit := none
    deferred := none }

/-- An attempt open or ending at the end of a run is abandoned as STOPPED (R119). The order of its LINE_ABANDONED and of RGU's
flush is free (R62, R110; log entry 36). -/
def State.stopAttempt (reason : AbandonReason) (s : State) : State :=
  match s.pwk.attempt with
  | none => s
  | some a =>
    let record := Record.lineAbandoned a.line a.attempt a.headAzimuth reason (s.firedOf a)
    if a.ending then s.placeRecord record
    else if s.recordFirst then (s.closeNotice.orderDrawn.placeRecord record).rguEnd .abandoned a.line a.attempt
    else (s.closeNotice.orderDrawn.rguEnd .abandoned a.line a.attempt).placeRecord record

/-- The walker at the end of a run by STOP or DUPLICATE (R119). -/
def State.walkerRunEnd (reason : AbandonReason) (s : State) : State :=
  let t := s.stopAttempt reason
  t.withPwk t.pwk.toIdle

/-- EMT, RGU and PTA end their parts of the run. -/
def State.shotPathRunEnd (s : State) : State := s.emtRunEnd.rguRunEnd.ptaRunEnd

/-- The device becomes READY (R189). -/
def State.deviceReady (s : State) : State := s.withCmu { s.cmu with device := .ready }

/-- SLC leaves the line and PRU empties its table (R133, R149). -/
def State.leaveLine (s : State) : State := (s.withSlc (s.slc.leave s.time)).emptyTable

/-- A line attempt is open, so that the order of the end notice and of the end of run matters (R64). -/
def State.attemptOpen (s : State) : Bool := s.pwk.attempt.any fun a => !a.ending

/-- The shot path and the walker at a STOP: where an attempt is open, PWK's end notice reaches RGU before or after RGU's list
is emptied, as a free value says (R64). Log entry 5. -/
def State.stopShots (s : State) : State :=
  if s.attemptOpen then
    if Config.freeStopOrder s.draws then ((s.drawn).walkerRunEnd .stop).shotPathRunEnd
    else ((s.drawn).shotPathRunEnd).walkerRunEnd .stop
  else s.shotPathRunEnd.walkerRunEnd .stop

/-- The run ends by STOP (R197). -/
def State.endByStop (s : State) : State := s.deviceReady.stopShots.photoAbort.leaveLine

/-- The run ends by plan end (R101, R198): the walker has raised PLAN_DONE and entered IDLE. -/
def State.endByPlan (s : State) : State := s.deviceReady.shotPathRunEnd.leaveLine

/-- The run ends by DUPLICATE (R148, R198): membership and the table have changed already. -/
def State.endByDuplicate (s : State) : State := (s.deviceReady.shotPathRunEnd.photoAbort).walkerRunEnd .duplicate

end Sys2Proof.Machine
end

