-- ==== Sys2Proof/Machine/Walker.lean ====
section
/-! DEFINITION. The Plan Walker (chapter 6): taking records, slews, photos, the line attempt's opening, ending, judgement and
abandonment, pause, halt, and the meanings of its own steps. -/

namespace Sys2Proof.Machine

/-! ## The plan and its validation (R96, R97, R99) -/

/-- The plan record at an index. -/
def Pwk.record (x : Pwk) (i : Nat) : PlanRecord := (x.plan[i]?).getD .planEnd

/-- The window of a segment clears the blind zone (R97). -/
def Segment.windowValid (halfWidth : Nat) (g : Segment) : Bool :=
  decide (halfWidth < g.mFrom ∧ g.mFrom ≤ g.mTo ∧ g.mTo < revolution - halfWidth)

/-- The walk of plan validation (R97) from an index, with the REPEATs visited so far: the index of the first faulty record.
At most 64 REPEATs jump and each run between jumps visits at most 64 records, so 8,192 steps always suffice. -/
def validateFrom (x : Pwk) (halfWidth : Nat) : Nat → List Nat → Nat → Option Nat
  | 0, _, _ => some 63
  | n + 1, visited, i =>
    if 63 < i then some 63
    else match x.record i with
      | .segment g =>
        if g.step = 0 ∨ g.windowValid halfWidth = false then some i else validateFrom x halfWidth n visited (i + 1)
      | .photo _ _ => validateFrom x halfWidth n visited (i + 1)
      | .repeatFrom target count =>
        if i ≤ target ∨ count = 0 then some i
        else if visited.contains i then validateFrom x halfWidth n visited (i + 1)
        else validateFrom x halfWidth n (i :: visited) target
      | .planEnd => none

/-- Plan validation from the START index (R97): the index of the first faulty record, none for a valid plan. -/
def Pwk.validate (x : Pwk) (halfWidth index : Nat) : Option Nat := validateFrom x halfWidth 8192 [] index

/-- The number of lines of a segment (R99). -/
def Segment.lines (g : Segment) : Nat :=
  if 0 < g.step then ((((g.azEnd : Int) - g.azStart) % 1048576) / g.step).toNat + 1
  else ((((g.azStart : Int) - g.azEnd) % 1048576) / (-g.step)).toNat + 1

/-- The azimuth of a line index (R99). -/
def Segment.azimuth (g : Segment) (j : Nat) : Nat := (((g.azStart : Int) + j * g.step) % 1048576).toNat

/-- The segment of the present segment context. -/
def Pwk.currentSegment (x : Pwk) : Option Segment :=
  match x.segment with
  | some c => match x.record c.record with
    | .segment g => some g
    | _ => none
  | none => none

/-! ## Slews (R102) -/

/-- The length of the fault timer: 10 s. -/
def headFaultTicks : Nat := ticksOfS 10

/-- The walker issues a head position command and enters SLEWING (R102). The head motor controller holds in-position low
while it moves toward another target (section 6.4). -/
def State.issueHead (target : Nat) (s : State) : State :=
  s.withPwk { s.pwk with
    state := .slewing
    slew := ⟨some target, some s.time, false, some (s.time + headFaultTicks)⟩
    inPosition := s.pwk.inPosition && s.pwk.headCommand == some target
    headCommand := some target }

/-- The walker commands the head; arrival is taken at once where the target is the command in force and in-position is high
(R102). -/
def State.slewTo (target : Nat) (s : State) : State × Option WalkTask :=
  let t := s.issueHead target
  (t, if t.pwk.inPosition then some .arrive else none)

/-- The walker enters LINE_WAIT, or PAUSED where a pause is pending (R114). -/
def Pwk.toLineWait (x : Pwk) : Pwk :=
  if x.pausePending then { x with state := .paused, pausePending := false } else { x with state := .lineWait }

/-! ## Tasks between lines (R99 to R102, R111 to R113) -/

/-- PHC's answer ends the PHOTO state at once where it comes at once (R113). -/
def afterRequest (r : State × Option Completion) : State × Option WalkTask :=
  (r.1, if r.2.isSome then some .photoDone else none)

/-- The walker enters PHOTO and sends PHC its request (R112, R113). -/
def State.takePhoto (m : CameraSet) (s : State) : State × Option WalkTask :=
  afterRequest ((s.withPwk { s.pwk with state := .photo }).photoRequest m)

/-- A REPEAT record acts on its counter (R100): the counter's new value and the record to take next. -/
def repeatStep (counter : Option Nat) (index target count : Nat) : Option Nat × Nat :=
  match counter with
  | none => (some (count - 1), target)
  | some 0 => (none, index + 1)
  | some (n + 1) => (some n, target)

/-- The plan is done (R101). -/
def State.planDone (s : State) : State :=
  let t := s.raise (.planDone (s.pwk.lineCounter - 1))
  (t.withPwk t.pwk.toIdle).endByPlan

/-- The walker takes the record at an index (R99). -/
def State.takeRecord (i : Nat) (s : State) : State × Option WalkTask :=
  let t := s.withPwk { s.pwk with recordIndex := i }
  match s.pwk.record i with
  | .segment g => (t.withPwk { t.pwk with segment := some ⟨i, 0, g.lines, 0, 0⟩ }).slewTo (g.azimuth 0)
  | .photo az _ => t.slewTo az
  | .repeatFrom target count =>
    let r := repeatStep ((s.pwk.counters[i]?).getD none) i target count
    (t.withPwk { t.pwk with counters := t.pwk.counters.setIfInBounds i r.1 }, some (.take r.2))
  | .planEnd => (t.planDone, none)

/-- Arrival (R102): the fault timer stops; a line's slew ends in LINE_WAIT or PAUSED, a PHOTO record's in PHOTO. -/
def State.arrive (s : State) : State × Option WalkTask :=
  let t := s.withPwk { s.pwk with slew := { s.pwk.slew with arrived := true, faultTimer := none } }
  match t.pwk.record t.pwk.recordIndex with
  | .photo _ m => t.takePhoto m
  | _ => (t.withPwk t.pwk.toLineWait, none)

/-- An interleaved photo is due after the line just ended (R111, step 3). -/
def photoDue (g : Segment) (c : SegmentContext) : Bool := decide (0 < g.interval ∧ c.done % g.interval = 0)

/-- Step 3 of R111: the interleaved photo, with the segment context saved (R112), or on to step 4. -/
def State.afterLine (s : State) : State × Option WalkTask :=
  match s.pwk.currentSegment, s.pwk.segment with
  | some g, some c =>
    if photoDue g c then (s.withPwk { s.pwk with saved := some c }).takePhoto g.mask else (s, some .nextLine)
  | _, _ => (s, none)

/-- Step 4 of R111: the next line of the segment, or the next record. -/
def State.nextLine (s : State) : State × Option WalkTask :=
  match s.pwk.currentSegment, s.pwk.segment with
  | some g, some c =>
    if c.lineIndex + 1 < c.lines then
      (s.withPwk { s.pwk with segment := some { c with lineIndex := c.lineIndex + 1 } }).slewTo (g.azimuth (c.lineIndex + 1))
    else (s, some (.take (c.record + 1)))
  | _, _ => (s, none)

/-- A completion in PHOTO (R113): an interleaved photo restores its segment context, a PHOTO record is followed by the next. -/
def State.photoDone (s : State) : State × Option WalkTask :=
  if s.pwk.state = .photo then
    match s.pwk.saved with
    | some c => (s.withPwk { s.pwk with segment := some c, saved := none }, some .nextLine)
    | none => (s, some (.take (s.pwk.recordIndex + 1)))
  else (s, none)

/-- One task of the walker, with the task that follows at once, if any. -/
def State.walkTask (t : WalkTask) (s : State) : State × Option WalkTask :=
  match t with
  | .take i => s.takeRecord i
  | .arrive => s.arrive
  | .afterLine => s.afterLine
  | .nextLine => s.nextLine
  | .photoDone => s.photoDone

/-- Tasks that follow one another at once. -/
def State.walkTasks : Nat → WalkTask → State → State
  | 0, _, s => s
  | n + 1, t, s =>
    match (s.walkTask t).2 with
    | some t' => State.walkTasks n t' (s.walkTask t).1
    | none => (s.walkTask t).1

/-- More tasks than any plan can make follow at once: 64 REPEATs of count 255 nest to fewer than 256 ^ 64 passes, each of
fewer than 2 ^ 16 tasks. -/
@[irreducible] def walkFuel : Nat := 2 ^ 256 * 2 ^ 256 * 2 ^ 16

/-- The walker does a task and those that follow it at once. -/
def State.walk (t : WalkTask) (s : State) : State := s.walkTasks walkFuel t

/-- The walker's deferred action (R105), taken once its outgoing record is empty; a halted or paused walker issues no head
command and takes none (R114, R117). -/
def State.runDeferred (s : State) : State :=
  if s.pwk.outgoing.isNone ∧ s.pwk.state ≠ .halted ∧ s.pwk.state ≠ .paused then
    match s.pwk.deferred with
    | some t => (s.withPwk { s.pwk with deferred := none }).walk t
    | none => s
  else s

/-- The walker takes a task now, or once its outgoing record has entered the queue (R105). -/
def State.defer (t : WalkTask) (s : State) : State := (s.withPwk { s.pwk with deferred := some t }).runDeferred

/-! ## PHC has drained its outgoing list (R80, R88) -/

/-- PHC enters IDLE; a TAKEN completion goes to the walker, or a held request is answered. -/
def State.photoDrained (s : State) : State :=
  match s.phc.owed with
  | some _ => (s.withPhc { s.phc with sequence := .idle, owed := none }).walk .photoDone
  | none =>
    match s.phc.heldRequest with
    | some m =>
      let r := (s.withPhc { s.phc with sequence := .idle, heldRequest := none }).photoRequest m
      if r.2.isSome then r.1.walk .photoDone else r.1
    | none => s.withPhc { s.phc with sequence := .idle }

/-- PHC in EXPOSE after a release or an abort is done once the outgoing list is empty. -/
def State.checkDrained (s : State) : State :=
  if s.phc.draining ∧ s.phc.outgoing.isEmpty = true then s.photoDrained else s

/-! ## The end of a line (R108, R111) -/

/-- Steps 1 and 2 of R111: the line counter, lines done, counted attempts and attempt number. -/
def Pwk.lineDone (x : Pwk) : Pwk :=
  { x with
    lineCounter := x.lineCounter + 1
    attemptNumber := 1
    attempt := none
    segment := x.segment.map fun c => { c with done := c.done + 1, counted := 0 } }

/-- The counted attempts of the current line. -/
def Pwk.counted (x : Pwk) : Nat := (x.segment.map (·.counted)).getD 0

/-- The walker ends a line: its LINE_END is placed, LINE_GAP raised for a GAP, and the walker acts after it (R108, R111). -/
def State.endLine (a : AttemptRecord) (outcome : LineOutcome) (thinned : Bool) (fired offered : Nat) (s : State) : State :=
  let counted := s.pwk.counted
  let t := (s.withPwk s.pwk.lineDone).placeRecord
    (.lineEnd a.line a.attempt a.headAzimuth outcome thinned counted fired offered)
  let u := if outcome = .gap then t.raise (.lineGap a.line counted) else t
  u.defer .afterLine

/-- The retry limit of the current segment. -/
def Pwk.retryLimit (x : Pwk) : Nat := (x.currentSegment.map (·.retryLimit)).getD 1

/-- The walker keeps the line for another attempt: LINE_ABANDONED is placed and the attempt number goes up (R108, R109). -/
def State.retryLine (a : AttemptRecord) (reason : AbandonReason) (fired : Nat) (s : State) : State :=
  (s.withPwk { s.pwk with attempt := none, attemptNumber := s.pwk.attemptNumber + 1 }).placeRecord
    (.lineAbandoned a.line a.attempt a.headAzimuth reason fired)

/-- One more counted attempt (R108). -/
def Pwk.countAttempt (x : Pwk) : Pwk :=
  { x with segment := x.segment.map fun c => { c with counted := c.counted + 1 } }

/-- The walker judges an ending attempt on its finish report (R108). -/
def State.judgeAttempt (a : AttemptRecord) (r : FinishReport) (s : State) : State :=
  let fired := a.fired.getD 0
  match r.dirty with
  | none => s.endLine a .accepted r.thinned fired r.offered
  | some d =>
    let t := s.withPwk s.pwk.countAttempt
    if t.pwk.retryLimit ≤ t.pwk.counted ∨ a.attempt = 65535 then t.endLine a .gap r.thinned fired r.offered
    else
      let u := t.retryLine a (.dirty d.cause d.shot r.offered) fired
      u.withPwk u.pwk.toLineWait

/-- The effect of FINISH_REPORT: the walker takes PTA's finish report; one for another attempt than the ending one is
ignored (R108, R116, R119). -/
def finishReportAct (s : State) : State :=
  match s.pta.report with
  | none => s
  | some r =>
    let t := s.withPta { s.pta with report := none }
    match s.pwk.attempt with
    | none => t
    | some a =>
      if a.ending = true ∧ a.line = r.line ∧ a.attempt = r.attempt ∧ s.pwk.state = .line then t.judgeAttempt a r else t

/-- FINISH_REPORT (R108). -/
def execFinishReport (s : State) : Host.Outcome State Fault Refusal := act finishReportAct s

/-! ## Abandonment (R109) -/

/-- The line of an attempt numbered 65,535 that is abandoned ends as a GAP (R108); the LINE_END fields that the manual takes
from a finish report, which does not exist, are free values. Log entry 6. -/
def State.exhaustLine (a : AttemptRecord) (fired : Nat) (s : State) : State :=
  s.drawn.endLine a .gap (Config.freeThinned s.draws) fired (Config.freePointsOffered s.draws).toNat

/-- A walker that abandons for a proximity hit enters HALTED (R109, R116). -/
def Pwk.haltFor (reason : AbandonReason) (x : Pwk) : Pwk := if reason = .proximity then { x with state := .halted } else x

/-- LINE_ABANDONED is placed, and the walker enters LINE_WAIT or PAUSED, or HALTED for a proximity hit (R109, R114). -/
def State.recordAbandoned (reason : AbandonReason) (a : AttemptRecord) (fired : Nat) (s : State) : State :=
  let t := (s.withPwk (s.pwk.haltFor reason)).retryLine a reason fired
  if reason = .proximity then t else t.withPwk t.pwk.toLineWait

/-- The walker abandons its attempt as INTERRUPTED (R109). An attempt that was ending has had its notices. The order of
LINE_ABANDONED and of RGU's flush of an open attempt is free (R62, R110; log entry 36); the LINE_END of an attempt 65,535
follows the flush (log entry 36, DESIGN CHOICE). -/
def State.abandon (reason : AbandonReason) (a : AttemptRecord) (s : State) : State :=
  let fired := s.firedOf a
  let t := s.withPwk { s.pwk with attemptLimit := none }
  if a.attempt = 65535 then
    let u := if a.ending then t else s.endNotices .abandoned a
    (u.withPwk (u.pwk.haltFor reason)).exhaustLine a fired
  else if a.ending then t.recordAbandoned reason a fired
  else if s.recordFirst then (s.closeNotice.orderDrawn.recordAbandoned reason a fired).rguEnd .abandoned a.line a.attempt
  else (s.closeNotice.orderDrawn.rguEnd .abandoned a.line a.attempt).recordAbandoned reason a fired

/-- EMT's interruption notice (R32): the attempt, the local time of the instant, and the gate conditions closed there. -/
structure Interruption where
  line : Nat
  attempt : Nat
  time : Nat
  closed : GateConditions
deriving DecidableEq, Repr

/-- The walker takes EMT's interruption notice: ignored unless it names the open attempt (R109). -/
def State.interrupt (i : Interruption) (s : State) : State :=
  match s.pwk.attempt with
  | some a => if a.ending = false ∧ a.line = i.line ∧ a.attempt = i.attempt then s.abandon (.gate i.closed) a else s
  | none => s

/-- The effect of ATTEMPT_LIMIT_EXPIRY. -/
def attemptLimitAct (s : State) : State :=
  if due s.pwk.attemptLimit s.time = true then
    match s.pwk.attempt with
    | some a => if a.ending then s else s.abandon .mirror a
    | none => s
  else s

/-- ATTEMPT_LIMIT_EXPIRY (R107). -/
def execAttemptLimitExpiry (s : State) : Host.Outcome State Fault Refusal := act attemptLimitAct s

/-! ## The proximity halt (R116) -/

/-- A change of own hold: where holds are announced, a HOLD frame and a BEACON are asked for (R116, R118, R132, R162). -/
def State.announceHold (s : State) : State :=
  if s.cmu.settings.announceHolds then (s.requestFrame .hold).requestBeacon else s

/-- The walker takes a proximity hit that names its attempt (R116). -/
def State.halt (hit : ProximityHit) (a : AttemptRecord) (s : State) : State :=
  let t := s.abandon .proximity a
  let u := t.withPwk { t.pwk with ownHold := some t.time }
  (u.raise (.proximityHalt hit.range hit.line hit.attempt)).announceHold

/-- A proximity hit at the walker: ignored outside LINE or for another attempt (R116). -/
def State.takeHit (hit : ProximityHit) (s : State) : State :=
  match s.pwk.attempt with
  | some a => if s.pwk.state = .line ∧ a.line = hit.line ∧ a.attempt = hit.attempt then s.halt hit a else s
  | none => s

/-! ## The mirror index at the walker (R104, R106) -/

/-- Every condition of opening holds at the index (R104). -/
def State.mayOpen (s : State) : Bool :=
  s.pwk.inPosition && s.anu.monitor == .ok && s.slc.membership == .live && !s.pru.quietClosed &&
  !holdStanding s.cmu.settings s.pru && s.pwk.outgoing.isNone && s.rps.room

/-- The walker opens a line attempt (R104). -/
def State.openAttempt (g : Segment) (s : State) : State :=
  let line := s.pwk.lineCounter
  let attempt := s.pwk.attemptNumber
  let az := s.angle .head
  let t := (s.withPwk { s.pwk with attempt := some ⟨line, attempt, az, s.time, none, false⟩ }).enter
    (.lineBegin line attempt s.time az)
  let u := ((t.ptaOpen line attempt g.mode).rguOpen line attempt g.watch).emtOpen line attempt g
  u.withPwk { u.pwk with attemptLimit := some (u.time + u.cmu.settings.absenceTicks), state := .line }

/-- The index ends the attempt with the monitor OK (R106). -/
def State.endAttempt (a : AttemptRecord) (s : State) : State :=
  let fired := s.emt.closeCount
  let t := s.withPwk { s.pwk with attempt := some { a with fired := some fired, ending := true } }
  t.endNotices .ended a

/-- The walker takes a mirror index (R104, R106). -/
def State.walkerIndex (s : State) : State :=
  match s.pwk.state with
  | .lineWait =>
    match s.pwk.currentSegment with
    | some g => if s.mayOpen then s.openAttempt g else s
    | none => s
  | .line =>
    match s.pwk.attempt with
    | some a =>
      if a.ending then s
      else if s.anu.monitor = .ok then s.endAttempt a
      else s.abandon .mirror a
    | none => s
  | _ => s

/-- The effect of ENCODER_INDEX: a level accepted by the filter; its rise is an index, taken once for each high period (R4).
ANU judges the mirror's period first and then hands the index to PWK. -/
def encoderIndexAct (enc : Encoder) (level : Bool) (s : State) : State :=
  let t := s.withAnu (s.anu.setEncoder enc { s.anu.encoder enc with indexLevel := level })
  if level = true ∧ (s.anu.encoder enc).indexLevel = false then
    match enc with
    | .head => t.anuIndex .head
    | .mirror => (t.anuIndex .mirror).walkerIndex
  else t

/-- ENCODER_INDEX (R4). -/
def execEncoderIndex (enc : Encoder) (level : Bool) (s : State) : Host.Outcome State Fault Refusal :=
  act (encoderIndexAct enc level) s

/-! ## The head's steps (R102, R103) -/

/-- The effect of IN_POSITION_RISE. -/
def inPositionAct (s : State) : State :=
  let t := s.withPwk { s.pwk with inPosition := true }
  if s.pwk.state = .slewing then t.walk .arrive else t

/-- IN_POSITION_RISE (R102). -/
def execInPositionRise (s : State) : Host.Outcome State Fault Refusal := act inPositionAct s

/-- The effect of HEAD_FAULT_TIMER_EXPIRY. -/
def headFaultAct (s : State) : State :=
  if s.pwk.state = .slewing ∧ due s.pwk.slew.faultTimer s.time = true then
    (s.withPwk { s.pwk with state := .faulted, slew := { s.pwk.slew with faultTimer := none } }).raise
      (.headFault (s.pwk.slew.target.getD 0) s.pwk.recordIndex)
  else s

/-- HEAD_FAULT_TIMER_EXPIRY (R103). -/
def execHeadFaultTimerExpiry (s : State) : Host.Outcome State Fault Refusal := act headFaultAct s

end Sys2Proof.Machine
end

