-- ==== Sys2Proof/Machine/Emission.lean ====
section
/-! DEFINITION. The Emission Timer's own steps (chapter 2): local time, the schedule, the gate, firing, interruption and
EMIT, and the meaning of ECHO_SET (R38), which the range front end sends for every shot. -/

namespace Sys2Proof.Machine

/-! ## Local time (R20) -/

/-- One tick of local time: it holds its last value (R20). -/
def State.tick (s : State) : State := s.withTime (if s.time < timeLimit then s.time + 1 else timeLimit)

/-- The effect of LOCAL_TIME_LIMIT: the tick on which local time reaches its limit; at any other time no effect. -/
def localTimeLimitAct (s : State) : State := if timeLimit ≤ s.time + 1 then s.withTime timeLimit else s

/-- LOCAL_TIME_LIMIT (R20). -/
def execLocalTimeLimit (s : State) : Host.Outcome State Fault Refusal := act localTimeLimitAct s

/-! ## The schedule (R21 to R23) -/

/-- The seed of the dither generator (R21). -/
def ditherSeed (station : Nat) : Nat := 257 * station

/-- The dither d of a generator value (R22). -/
def ditherOf (halfRange x : Nat) : Int := ((x * (2 * halfRange + 1) / 65536 : Nat) : Int) - halfRange

/-- The interval I of a generator value (R22). -/
def intervalOf (c : Settings) (x : Nat) : Nat := ((c.basePeriod : Int) + ditherOf c.dither x).toNat

/-- EMT on an accepted START (R21); EMIT and a FIRE pulse are left to themselves. -/
def Emt.start (c : Settings) (now : Nat) (x : Emt) : Emt :=
  let x0 := ditherSeed (c.station.getD 0)
  { x with
    startTime := some now
    schedule := some ⟨now + intervalOf c x0, 0⟩
    generator := some x0
    tagCounter := 0
    context := none
    keptFired := none }

/-- The generator advances and the next instant is set (R23, steps 2 and 3). -/
def Emt.advance (c : Settings) (instant : Schedule) (x : Emt) : Emt :=
  let x1 := lcg (x.generator.getD 0)
  { x with generator := some x1, schedule := some ⟨instant.next + intervalOf c x1, instant.number + 1⟩ }

/-! ## Candidates and the gate (R28, R29) -/

/-- The instant is a candidate of the attempt (R28). -/
def EmitContext.candidate (halfWidth mirror : Nat) (ctx : EmitContext) : Bool :=
  decide (ctx.mFrom ≤ mirror ∧ mirror ≤ ctx.mTo) && !inBlindZone halfWidth mirror

/-- The candidate is eligible (R28). -/
def EmitContext.eligible (ctx : EmitContext) : Bool := ctx.candidates % ctx.divisor == 0

/-! ## Firing (R31, R33) -/

/-- The shot of an instant, as EMT hands it to RGU (R31). -/
def Emt.shot (x : Emt) (ctx : EmitContext) (now mirror head : Nat) : Shot where
  tag := x.tagCounter
  fireTime := now
  index := ctx.fired
  line := ctx.line
  attempt := ctx.attempt
  mirrorAngle := mirror
  headAzimuth := head

/-- EMIT is raised or held (R33); its rise changes the firing flag of a beacon (R132). -/
def State.raiseEmit (s : State) : State :=
  let t := s.withEmt { s.emt with emit := some (s.time + 2 * s.cmu.settings.basePeriod) }
  if s.emt.emit.isSome then t else t.requestBeacon

/-- EMT fires the shot (R31). -/
def State.fireShot (ctx : EmitContext) (mirror head : Nat) (s : State) : State :=
  let shot := s.emt.shot ctx s.time mirror head
  let t := s.withEmt { s.emt with
    fire := some ⟨s.time + 5, s.emt.tagCounter⟩
    tagCounter := (s.emt.tagCounter + 1) % 256
    context := some { ctx with fired := ctx.fired + 1 } }
  (t.rguFire shot).raiseEmit

/-! ## A scheduled instant (R23, R25 to R32) -/

/-- EMT judges a candidate instant: it fires, or judges an interruption notice (R28 to R32). -/
def State.judgeInstant (ctx : EmitContext) (mirror head : Nat) (s : State) : State × Option Interruption :=
  let counted := { ctx with candidates := ctx.candidates + 1 }
  let closed := s.closedConditions
  if closed.anyClosed then
    (s.withEmt { s.emt with context := some { counted with reported := true } },
      if ctx.reported then none else some ⟨ctx.line, ctx.attempt, s.time, closed⟩)
  else if ctx.eligible then (s.fireShot counted mirror head, none)
  else (s.withEmt { s.emt with context := some counted }, none)

/-- EMT handles a scheduled instant (R25): both angles are asked for, whether or not an attempt is open. -/
def State.handleInstant (s : State) : State × Option Interruption :=
  let mirror := s.angle .mirror
  let head := s.angle .head
  match s.emt.context with
  | some ctx => if ctx.candidate s.cmu.settings.blindHalfWidth mirror then s.judgeInstant ctx mirror head else (s, none)
  | none => (s, none)

/-- PWK takes the interruption notice, if there is one (R32, R109). -/
def State.takeNotice (n : Option Interruption) (s : State) : State :=
  match n with
  | some i => s.interrupt i
  | none => s

/-- The effect of SCHEDULED_INSTANT, taken when the next scheduled instant has been reached (R23). -/
def scheduledInstantAct (s : State) : State :=
  match s.emt.schedule with
  | none => s
  | some instant =>
    if instant.next ≤ s.time then
      let r := s.handleInstant
      (r.1.withEmt (r.1.emt.advance s.cmu.settings instant)).takeNotice r.2
    else s

/-- SCHEDULED_INSTANT (R23). -/
def execScheduledInstant (s : State) : Host.Outcome State Fault Refusal := act scheduledInstantAct s

/-- The effect of FIRE_PULSE_END: FIRE falls 5 ticks after its rise. -/
def firePulseEndAct (s : State) : State :=
  if due (s.emt.fire.map (·.fall)) s.time then s.withEmt { s.emt with fire := none } else s

/-- FIRE_PULSE_END (R31). -/
def execFirePulseEnd (s : State) : Host.Outcome State Fault Refusal := act firePulseEndAct s

/-- The effect of EMIT_EXPIRY. -/
def emitExpiryAct (s : State) : State := if due s.emt.emit s.time then s.emitFall else s

/-- EMIT_EXPIRY (R33). -/
def execEmitExpiry (s : State) : Host.Outcome State Fault Refusal := act emitExpiryAct s

/-! ## ECHO_SET (R38) -/

/-- PWK takes the proximity hit of a set, if there is one, after RGU has handed on its shots (R38, R52, R116). -/
def takeRaisedHit (r : State × Option ProximityHit) : State :=
  match r.2 with
  | some hit => r.1.takeHit hit
  | none => r.1

/-- A complete set: taken in RUNNING, else discarded (R38). -/
def State.completeSet (e : EchoSet) (s : State) : State :=
  if s.cmu.device = .running then takeRaisedHit (s.takeSet e) else s

/-- The bytes of the transfer in progress once more bytes have arrived. Bytes that begin with a header begin a transfer, and an
unfinished one is dropped; the others continue the transfer in progress. Where none is in progress their own header was
lost, in a reset or a power loss: they are not taken, and RGU waits for the next header (R38). Log entry 26. -/
def Rgu.received (header : Bool) (bytes : List Byte) (x : Rgu) : List Byte :=
  if header then bytes
  else if x.transfer.isEmpty then []
  else x.transfer ++ bytes

/-- Every complete set of the bytes received is taken in turn; what is left is the transfer in progress (R38). A set takes at
least two bytes, so as many rounds as there are bytes take them all. -/
def State.takeTransfers : Nat → State → State
  | 0, s => s
  | n + 1, s =>
    match parseTransfer s.rgu.transfer with
    | none => s
    | some (e, rest) => State.takeTransfers n ((s.withRgu { s.rgu with transfer := rest }).completeSet e)

/-- The effect of ECHO_SET: the bytes join the transfer in progress or begin one, and a transfer that is complete is taken; one
that is not yet complete has no other effect (R38). -/
def echoSetAct (header : Bool) (bytes : List Byte) (s : State) : State :=
  let transfer := s.rgu.received header bytes
  (s.withRgu { s.rgu with transfer := transfer }).takeTransfers transfer.length

/-- ECHO_SET (R38). -/
def execEchoSet (transfer : EchoTransfer) (s : State) : Host.Outcome State Fault Refusal :=
  act (echoSetAct transfer.header transfer.bytes) s

end Sys2Proof.Machine
end

