-- ==== Sys2Proof/Machine/PhotoSteps.lean ====
section
/-! DEFINITION. The Photo Controller's own steps (chapter 5): SETTLE_END, GRANT_TIMEOUT, CAMERA_EXPOSURE_END and
PHOTO_RELEASE. -/

namespace Sys2Proof.Machine

/-- The effect of SETTLE_END: the sequence timer expires in SETTLE. -/
def settleEndAct (s : State) : State :=
  if s.phc.sequence = .settle ∧ due s.phc.timer s.time = true then s.endSettle else s

/-- SETTLE_END (R82). -/
def execSettleEnd (s : State) : Host.Outcome State Fault Refusal := act settleEndAct s

/-- The effect of GRANT_TIMEOUT: the sequence timer expires in GRANT_WAIT, and PHC exposes with the grants it holds. -/
def grantTimeoutAct (s : State) : State :=
  if s.phc.sequence = .grantWait ∧ due s.phc.timer s.time = true then s.expose else s

/-- GRANT_TIMEOUT (R85). -/
def execGrantTimeout (s : State) : Host.Outcome State Fault Refusal := act grantTimeoutAct s

/-- A camera's trigger falls. -/
def CameraExposure.fall (c : CameraExposure) : CameraExposure := { c with trigger := false }

/-- The exposure record with the trigger of one camera low. -/
def ExposureRecord.lowerOne (n : Nat) (e : ExposureRecord) : ExposureRecord :=
  { e with cameras := match e.cameras[n]? with
      | some c => e.cameras.setIfInBounds n c.fall
      | none => e.cameras }

/-- When a camera's own exposure ends, while its trigger is high (R86). -/
def ExposureRecord.endOf (n : Nat) (e : ExposureRecord) : Option Nat :=
  match e.cameras[n]?, e.startTime with
  | some c, some t => if c.trigger then some (t + ticksOfUs c.length) else none
  | _, _ => none

/-- The effect of CAMERA_EXPOSURE_END. -/
def cameraEndAct (camera : Nat) (s : State) : State :=
  if s.phc.sequence = .expose ∧ due (s.phc.exposure.endOf camera) s.time = true then
    s.withPhc { s.phc with exposure := s.phc.exposure.lowerOne camera }
  else s

/-- CAMERA_EXPOSURE_END (R86). -/
def execCameraExposureEnd (camera : Nat) (s : State) : Host.Outcome State Fault Refusal := act (cameraEndAct camera) s

/-- The effect of PHOTO_RELEASE: the sequence timer expires in EXPOSE; PHC returns to IDLE at once where every PHOTO record
has entered the queue. -/
def photoReleaseAct (s : State) : State :=
  if s.phc.sequence = .expose ∧ s.phc.ownQuiet = true ∧ due s.phc.timer s.time = true then s.release.checkDrained else s

/-- PHOTO_RELEASE (R88). -/
def execPhotoRelease (s : State) : Host.Outcome State Fault Refusal := act photoReleaseAct s

end Sys2Proof.Machine
end

