-- ==== Sys2Proof/Machine/Peers.lean ====
section
/-! DEFINITION. The Peer Unit (chapters 8 and 9): sorting of valid frames, the peer table, quiet windows, hold flags,
removal, the duplicate judgement, the join window, and the meanings of its own timers' steps. -/

namespace Sys2Proof.Machine

/-! ## Contents of a valid frame (R217) -/

/-- What a valid frame says, by its kind. -/
inductive Contents where
  | beacon (membership : Membership) (firing hold : Bool) (grants : List Nat)
  | quiet (w : Nat)
  | hold (on : Bool)
deriving DecidableEq, Repr

/-- The kind of a frame with these contents. -/
def Contents.kind : Contents → FrameKind
  | .beacon .. => .beacon
  | .quiet _ => .quiet
  | .hold _ => .hold

/-- The membership a frame speaks for (R140). -/
def Contents.spoken : Contents → Membership
  | .beacon m _ _ _ => m
  | .quiet _ => .live
  | .hold _ => .live

/-- The length of a peer entry's age timer and of the join timer: 300 ms (R141, R146). -/
def ageTicks : Nat := ticksOfMs 300

/-! ## Entries (R141, R142) -/

/-- The entry of a station changed by a function; an empty slot stays empty. -/
def State.updatePeer (station : Nat) (f : Peer → Peer) (s : State) : State :=
  match s.pru.peer station with
  | some p => s.withPru (s.pru.setPeer station (some (f p)))
  | none => s

/-- A new entry (R139, R141). -/
def newPeer (now : Nat) (spoken : Membership) : Peer := ⟨spoken, now, now + ageTicks, false, false, none, false⟩

/-- An entry refreshed (R141). -/
def Peer.refresh (now : Nat) (spoken : Membership) (p : Peer) : Peer :=
  { p with seen := spoken, lastHeard := now, age := now + ageTicks }

/-- A frame from another station that speaks for JOINING or LIVE creates or refreshes its entry (R141). -/
def State.hear (station : Nat) (spoken : Membership) (s : State) : State :=
  match s.pru.peer station with
  | some p => s.withPru (s.pru.setPeer station (some (p.refresh s.time spoken)))
  | none =>
    (s.withPru (s.pru.setPeer station (some (newPeer s.time spoken)))).raise (.peerJoined station spoken)

/-- A peer's hold flag is set or cleared; a change raises PEER_HOLD (R164). -/
def State.setPeerHold (station : Nat) (on : Bool) (source : HoldSource) (s : State) : State :=
  match s.pru.peer station with
  | some p =>
    if p.hold = on then s
    else (s.updatePeer station fun p => { p with hold := on }).raise (.peerHold station on source)
  | none => s

/-! ## Quiet windows (R155 to R158) -/

/-- An open window closes: QUIET_CLOSED is raised and a BEACON asked for (R156 to R158). -/
def State.closeWindow (station : Nat) (cause : CloseCause) (s : State) : State :=
  match s.pru.peer station with
  | some p =>
    if p.window.isSome then
      ((s.updatePeer station fun p => { p with window := none }).raise (.quietClosed station cause)).requestBeacon
    else s
  | none => s

/-- The granted length of a quiet request, in ms (R155). -/
def grantedLength (w : Nat) : Nat := min w 500

/-- A quiet request opens or replaces the peer's window (R155). -/
def State.grantQuiet (station w : Nat) (s : State) : State :=
  match s.pru.peer station with
  | some p =>
    ((s.updatePeer station fun p => { p with window := some (s.time + ticksOfMs (grantedLength w)) }).raise
      (.quietGranted station (grantedLength w) p.window.isSome (decide (500 < w)))).requestBeacon
  | none => s

/-- PRU takes a QUIET frame's W (R155, R156). -/
def State.takeQuiet (station w : Nat) (s : State) : State :=
  if w = 0 then s.closeWindow station .cancel else s.grantQuiet station w

/-! ## Contents of a peer's frame (R142) -/

/-- A beacon's flags into the entry (R142), then its hold flag (R164), then the beacon notice to PHC. -/
def State.takeBeacon (station : Nat) (firing hold listed : Bool) (s : State) : State :=
  ((s.updatePeer station fun p => { p with firing := firing, grantedToMe := listed }).setPeerHold station hold .beacon).beaconNotice
    station listed firing

/-- The contents of a frame go into its entry (R142). -/
def State.takeContents (own station : Nat) (c : Contents) (s : State) : State :=
  match c with
  | .beacon _ firing hold grants => s.takeBeacon station firing hold (grants.contains own)
  | .quiet w => s.takeQuiet station w
  | .hold on => s.setPeerHold station on .hold

/-! ## Removal (R143 to R145) -/

/-- An entry is removed (R145): its window closes, its hold flag clears, the slot empties, PEER_LOST is raised and PHC takes
the removal notice. -/
def State.removePeer (station : Nat) (cause : LossCause) (s : State) : State :=
  match s.pru.peer station with
  | none => s
  | some _ =>
    let t := (s.closeWindow station .removed).setPeerHold station false .removed
    ((t.withPru (t.pru.setPeer station none)).raise (.peerLost station cause)).removalNotice station

/-! ## The duplicate judgement (R147, R148) -/

/-- A frame that bears the own number makes the station DUPLICATE, unless it is LIVE and the frame speaks for JOINING
(R147). -/
def losesClaim (own spoken : Membership) : Bool := !(own == .live && spoken == .joining)

/-- The station becomes DUPLICATE (R148). -/
def State.duplicate (kind : FrameKind) (spoken : Membership) (s : State) : State :=
  (((s.withSlc s.slc.becomeDuplicate).emptyTable).raise (.duplicateStation s.slc.membership kind spoken)).endByDuplicate

/-! ## Sorting (R140) -/

/-- PRU takes a valid frame (R140). -/
def State.takeValid (station : Nat) (c : Contents) (s : State) : State :=
  if s.cmu.settings.station = some station then
    if c.spoken = .leaving then s
    else if losesClaim s.slc.membership c.spoken then s.duplicate c.kind c.spoken
    else s
  else if c.spoken = .leaving then s.removePeer station .left
  else (s.hear station c.spoken).takeContents (s.cmu.settings.station.getD 0) station c

/-! ## PRU's own steps -/

/-- The effect of AGE_TIMER_EXPIRY. -/
def ageExpiryAct (station : Nat) (s : State) : State :=
  if due ((s.pru.peer station).map (·.age)) s.time then s.removePeer station .aged else s

/-- AGE_TIMER_EXPIRY (R143). -/
def execAgeTimerExpiry (station : Nat) (s : State) : Host.Outcome State Fault Refusal := act (ageExpiryAct station) s

/-- Membership becomes LIVE at the end of the join window (R146). -/
def State.becomeLive (s : State) : State :=
  let t := (s.withPru { s.pru with joinTimer := none }).withSlc { s.slc with membership := .live }
  (t.raise (.live t.pru.entries.length t.pru.liveStations.length)).requestBeacon

/-- The walker, run armed, learns that membership is LIVE and takes the record at its START index (R98). -/
def State.tellLive (s : State) : State :=
  if s.pwk.armed then (s.withPwk { s.pwk with armed := false }).defer (.take s.pwk.recordIndex) else s

/-- The effect of JOIN_TIMER_EXPIRY. -/
def joinExpiryAct (s : State) : State :=
  if s.slc.membership = .joining ∧ due s.pru.joinTimer s.time = true then s.becomeLive.tellLive else s

/-- JOIN_TIMER_EXPIRY (R146). -/
def execJoinTimerExpiry (s : State) : Host.Outcome State Fault Refusal := act joinExpiryAct s

/-- The effect of QUIET_WINDOW_EXPIRY. -/
def windowExpiryAct (station : Nat) (s : State) : State :=
  if due ((s.pru.peer station).bind (·.window)) s.time then s.closeWindow station .expiry else s

/-- QUIET_WINDOW_EXPIRY (R157). -/
def execQuietWindowExpiry (station : Nat) (s : State) : Host.Outcome State Fault Refusal := act (windowExpiryAct station) s

end Sys2Proof.Machine
end

