-- ==== Sys2Proof/Machine/SiteLine.lean ====
section
/-! DEFINITION. The Site Line Controller's own steps (chapter 7): carrier sense, access, sending, jam, beacon and leave
timers, composition of frames, reception and the checks of received frames. -/

namespace Sys2Proof.Machine

/-! ## Composition (R123, R124, R217) -/

/-- The preamble byte (R217). -/
def preambleByte : Byte := 0x55

/-- The sync byte (R217). -/
def syncByte : Byte := 0xD3

/-- The membership code of a BEACON (R217). -/
def beaconMembershipCode : Membership → Nat
  | .joining => 1
  | .live => 2
  | .leaving => 3
  | _ => 0

/-- The payload of a BEACON composed now (R123). -/
def State.beaconPayload (s : State) : List Byte :=
  let grants := if s.slc.membership = .leaving then [] else s.pru.grants
  le 1 (beaconMembershipCode s.slc.membership) ++ flagsByte [s.emitHigh, s.holdFlag] ++ le 1 grants.length ++
    grants.flatMap (le 1)

/-- The payload of a frame composed now (R123, R124). -/
def State.payload (s : State) : FrameKind → List Byte
  | .beacon => s.beaconPayload
  | .quiet => le 2 s.phc.requestW
  | .hold => [flagByte s.pwk.ownHold.isSome]

/-- The bytes a frame's check covers: station, kind, length and payload (R217). -/
def coveredBytes (station kind : Byte) (payload : List Byte) : List Byte := [station, kind] ++ le 1 payload.length ++ payload

/-- The bytes of a frame on the line (R217, R218). -/
def siteFrameBytes (station kind : Byte) (payload : List Byte) : List Byte :=
  [preambleByte, preambleByte, syncByte] ++ coveredBytes station kind payload ++
    checkBytes (crc16 (coveredBytes station kind payload))

/-- The bytes of a frame of a kind composed now. -/
def State.composeBytes (s : State) (k : FrameKind) : List Byte :=
  siteFrameBytes (BitVec.ofNat 8 (s.cmu.settings.station.getD 0)) (BitVec.ofNat 8 (frameKindCode k)) (s.payload k)

/-- The line time of one byte: 10 µs (R129). -/
def byteTicks : Nat := ticksOfUs 10

/-- A frame of a kind composed now, with the end of its last stop bit (R129). -/
def State.compose (s : State) (k : FrameKind) : TxFrame where
  kind := k
  bytes := s.composeBytes k
  finish := s.time + byteTicks * (s.composeBytes k).length
  inGrantWait := k == .quiet && s.phc.sequence == .grantWait
  leaving := k == .beacon && s.slc.membership == .leaving

/-! ## Access and sending (R126, R128, R129) -/

/-- The kind that stands first in the order HOLD, QUIET, BEACON (R126). -/
def Slc.firstKind (x : Slc) : Option FrameKind :=
  if x.pendingHold then some .hold else if x.pendingQuiet then some .quiet else if x.pendingBeacon then some .beacon else none

/-- The assembler in HUNT, with nothing assembled, and no byte taken outside HUNT counted as the preamble byte before a sync
byte (R135, R218). Log entry 38, DESIGN CHOICE. -/
def Slc.hunt (x : Slc) : Slc := { x with assembler := .hunt false, byteGap := none }

/-- SLC starts sending a frame (R129). -/
def Slc.startSend (f : TxFrame) (x : Slc) : Slc :=
  { (x.setPending f.kind false).hunt with tx := .send, access := none, jam := none, frame := some f }

/-- The effect of ACCESS_TIMER_EXPIRY. -/
def accessExpiryAct (s : State) : State :=
  if s.slc.tx = .wait ∧ due s.slc.access s.time = true then
    match s.slc.firstKind with
    | some k => s.withSlc (s.slc.startSend (s.compose k))
    | none => s
  else s

/-- ACCESS_TIMER_EXPIRY (R128, R129). -/
def execAccessTimerExpiry (s : State) : Host.Outcome State Fault Refusal := act accessExpiryAct s

/-- The beacon timer restarts after a BEACON's sending in JOINING or LIVE: a jitter is drawn (R131). -/
def Slc.restartBeaconTimer (now : Nat) (x : Slc) : Slc :=
  { x.draw.2 with beaconTimer := some (now + ticksOfMs (100 + x.draw.1 * 20 / 65536)) }

/-- The transmitter after a frame: WAIT where a kind is still pending, else IDLE (R129). -/
def Slc.afterSend (now : Nat) (x : Slc) : Slc := if x.anyPending then x.enterWait now else { x with tx := .idle }

/-- SLC at the end of a frame's sending (R126, R130, R131). A beacon timer that expired while an immediate BEACON was in SEND has
put another one pending; the end of that sending restarts the timer, as R131 says of any BEACON's, though the timer that expired
would stay stopped until the beacon then put pending is sent. Log entry 40, DESIGN CHOICE. -/
def Slc.endSend (now : Nat) (f : TxFrame) (x : Slc) : Slc :=
  let y := { x with frame := none, jamReported := false }
  let z := if f.kind = .beacon ∧ (y.membership = .joining ∨ y.membership = .live) then y.restartBeaconTimer now else y
  z.afterSend now

/-- The notice at the end of a frame's sending: to PHC for a QUIET (R83, R126). -/
def State.sentNotice (f : TxFrame) (s : State) : State := if f.kind = .quiet then s.quietSent f.inGrantWait else s

/-- The end of a frame's sending; the LEAVING beacon's ends the leave (R126, R133). -/
def State.endSending (f : TxFrame) (s : State) : State :=
  if f.leaving then (s.withSlc { s.slc with frame := none, jamReported := false }).leaveEnded
  else (s.sentNotice f).withSlc (s.slc.endSend s.time f)

/-- The effect of SENDING_END: the last stop bit has been sent. -/
def sendingEndAct (s : State) : State :=
  match s.slc.frame with
  | some f => if s.slc.tx = .send ∧ f.finish ≤ s.time then s.endSending f else s
  | none => s

/-- SENDING_END (R126, R129). -/
def execSendingEnd (s : State) : Host.Outcome State Fault Refusal := act sendingEndAct s

/-! ## Carrier sense (R128, R130, R135) -/

/-- Carrier sense rises in WAIT: the access timer stops, a new backoff is drawn, the jam timer starts (R128, R130). -/
def Slc.carrierUp (now : Nat) (x : Slc) : Slc :=
  if x.tx = .wait then
    { x.draw.2 with access := none, backoff := x.draw.1 * 32 / 65536, jam := some (now + jamTicks) }
  else x

/-- The effect of CARRIER_SENSE_RISE; an input already high does not rise. -/
def carrierRiseAct (s : State) : State :=
  if s.slc.carrierSense then s else s.withSlc (Slc.carrierUp s.time { s.slc with carrierSense := true })

/-- CARRIER_SENSE_RISE (R128, R130). -/
def execCarrierSenseRise (s : State) : Host.Outcome State Fault Refusal := act carrierRiseAct s

/-- Carrier sense falls in WAIT: the access timer starts with the backoff last drawn, the jam timer stops (R128, R130). -/
def Slc.carrierDown (now : Nat) (x : Slc) : Slc :=
  if x.tx = .wait then { x with access := some (now + accessTicks x.backoff), jam := none } else x

/-- A frame is in assembly. -/
def Assembler.busy : Assembler → Bool
  | .hunt _ => false
  | .header _ => true
  | .body _ => true

/-- A frame in assembly is discarded as BROKEN (R135). -/
def Slc.breakFrame (x : Slc) : Slc :=
  if x.assembler.busy then { x.hunt with counters := { x.counters with broken := bump16 x.counters.broken } } else x

/-- The effect of CARRIER_SENSE_FALL; an input already low does not fall. -/
def carrierFallAct (s : State) : State :=
  if s.slc.carrierSense then s.withSlc (Slc.carrierDown s.time { s.slc with carrierSense := false }).breakFrame else s

/-- CARRIER_SENSE_FALL (R128, R130, R135). -/
def execCarrierSenseFall (s : State) : Host.Outcome State Fault Refusal := act carrierFallAct s

/-! ## Jam, beacon and leave timers (R130, R131, R133) -/

/-- The effect of JAM_TIMER_EXPIRY: LINE_JAMMED is raised where the jam-reported flag is clear. -/
def jamExpiryAct (s : State) : State :=
  if s.slc.tx = .wait ∧ due s.slc.jam s.time = true then
    let t := s.withSlc { s.slc with jam := none, jamReported := true }
    if s.slc.jamReported then t
    else t.raise (.lineJammed s.slc.pendingHold s.slc.pendingQuiet s.slc.pendingBeacon)
  else s

/-- JAM_TIMER_EXPIRY (R130). -/
def execJamTimerExpiry (s : State) : Host.Outcome State Fault Refusal := act jamExpiryAct s

/-- The effect of BEACON_TIMER_EXPIRY: a BEACON is put pending, the timer stays stopped. -/
def beaconExpiryAct (s : State) : State :=
  if due s.slc.beaconTimer s.time then (s.withSlc { s.slc with beaconTimer := none }).requestBeacon else s

/-- BEACON_TIMER_EXPIRY (R131). -/
def execBeaconTimerExpiry (s : State) : Host.Outcome State Fault Refusal := act beaconExpiryAct s

/-- The effect of LEAVE_TIMER_EXPIRY: in WAIT the LEAVING beacon is dropped and the leave ends; a beacon already in sending is
completed. -/
def leaveExpiryAct (s : State) : State :=
  if due s.slc.leaveTimer s.time then
    if s.slc.tx = .wait then s.leaveEnded else s.withSlc { s.slc with leaveTimer := none }
  else s

/-- LEAVE_TIMER_EXPIRY (R133). -/
def execLeaveTimerExpiry (s : State) : Host.Outcome State Fault Refusal := act leaveExpiryAct s

/-! ## Checks of a complete frame (R136, R217, R218) -/

/-- Why SLC discards a complete frame (R136). -/
inductive Discard where
  | check
  | station
  | kind
  | form
deriving DecidableEq, Repr

/-- A discard counted (R136). -/
def DiscardCounters.bump (d : DiscardCounters) : Discard → DiscardCounters
  | .check => { d with check := bump16 d.check }
  | .station => { d with station := bump16 d.station }
  | .kind => { d with kind := bump16 d.kind }
  | .form => { d with form := bump16 d.form }

/-- The membership of a BEACON's code (R217). -/
def beaconMembershipOf : Nat → Option Membership
  | 1 => some .joining
  | 2 => some .live
  | 3 => some .leaving
  | _ => none

/-- No entry of a list is repeated. -/
def noRepeats : List Nat → Bool
  | [] => true
  | x :: xs => !xs.contains x && noRepeats xs

/-- A grant list is in form (R136). -/
def grantsInForm (grants : List Nat) : Bool :=
  decide (grants.length ≤ 14) && grants.all (fun g => decide (1 ≤ g ∧ g ≤ 15)) && noRepeats grants

/-- The contents of a BEACON's payload, none where it does not fit (R136). -/
def parseBeacon (payload : List Byte) : Option Contents :=
  let grants := (payload.drop 3).map (·.toNat)
  match beaconMembershipOf (field payload 0 1) with
  | some m =>
    if 3 ≤ payload.length ∧ payload.length = 3 + field payload 2 1 ∧ grantsInForm grants = true then
      some (.beacon m ((slice payload 1 1).any (·.getLsbD 0)) ((slice payload 1 1).any (·.getLsbD 1)) grants)
    else none
  | none => none

/-- The contents of a HOLD's payload (R136). -/
def parseHold (payload : List Byte) : Option Contents :=
  if payload = [0] then some (.hold false) else if payload = [1] then some (.hold true) else none

/-- The contents of a payload of a kind, none where it does not fit (R136, R217). -/
def parsePayload (kind : FrameKind) (payload : List Byte) : Option Contents :=
  match kind with
  | .beacon => parseBeacon payload
  | .quiet => if payload.length = 2 then some (.quiet (unle payload)) else none
  | .hold => parseHold payload

/-- The kind of a frame kind code (R217). -/
def frameKindOf : Nat → Option FrameKind
  | 1 => some .beacon
  | 2 => some .quiet
  | 3 => some .hold
  | _ => none

/-- The judgement of a complete frame: the cause it is discarded for, or its station and contents (R136). -/
def judgeSiteFrame (station kind : Byte) (payload : List Byte) (check : Word16) : Except Discard (Nat × Contents) :=
  if crc16 (coveredBytes station kind payload) ≠ check then .error .check
  else if station = 0 ∨ 15 < station.toNat then .error .station
  else match frameKindOf kind.toNat with
    | none => .error .kind
    | some k =>
      match parsePayload k payload with
      | none => .error .form
      | some c => .ok (station.toNat, c)

/-- A complete frame's judgement takes effect: a discard is counted, a valid frame goes to PRU at once (R136). -/
def State.takeJudged (j : Except Discard (Nat × Contents)) (s : State) : State :=
  match j with
  | .error d => s.withSlc { s.slc with counters := s.slc.counters.bump d }
  | .ok v => s.takeValid v.1 v.2

/-- A complete frame is judged; the assembler is back in HUNT (R135, R136). A last check byte 0x55 is not taken as the preamble
byte before a sync byte that follows at once. Log entry 38, DESIGN CHOICE. -/
def State.completeFrame (station kind : Byte) (payload : List Byte) (check : Word16) (s : State) : State :=
  (s.withSlc s.slc.hunt).takeJudged (judgeSiteFrame station kind payload check)

/-! ## Reception (R135) -/

/-- The byte gap limit: 50 µs without a byte (R135). -/
def byteGapTicks : Nat := ticksOfUs 50

/-- The assembler with a frame in it and its byte gap limit restarted. -/
def Slc.assemble (now : Nat) (a : Assembler) (x : Slc) : Slc := { x with assembler := a, byteGap := some (now + byteGapTicks) }

/-- A byte in HUNT: a sync byte right after a preamble byte starts a frame (R135, R218). -/
def State.huntByte (preamble : Bool) (b : Byte) (s : State) : State :=
  if preamble = true ∧ b = syncByte then s.withSlc (s.slc.assemble s.time (.header []))
  else s.withSlc { s.slc with assembler := .hunt (b == preambleByte) }

/-- The longest payload (R135). -/
def payloadLimit : Nat := 17

/-- The bytes of a HEADER: the third is the length (R135). A length byte 0x55, discarded as FORM, is not taken as the preamble
byte before a sync byte that follows at once. Log entry 38, DESIGN CHOICE. -/
def State.headerBytes (bs : List Byte) (s : State) : State :=
  if bs.length < 3 then s.withSlc (s.slc.assemble s.time (.header bs))
  else if payloadLimit < field bs 2 1 then
    s.withSlc { s.slc.hunt with counters := s.slc.counters.bump .form }
  else s.withSlc (s.slc.assemble s.time (.body bs))

/-- The bytes of a BODY: after the last check byte the frame is complete (R135). -/
def State.bodyBytes (bs : List Byte) (s : State) : State :=
  let n := field bs 2 1
  if bs.length < 3 + n + 2 then s.withSlc (s.slc.assemble s.time (.body bs))
  else s.completeFrame (bs.getD 0 0) (bs.getD 1 0) (slice bs 3 n) (BitVec.ofNat 16 (field bs (3 + n) 2))

/-- A byte with its stop bit in order, by the assembler's state (R135). -/
def State.goodByte (b : Byte) (s : State) : State :=
  match s.slc.assembler with
  | .hunt p => s.huntByte p b
  | .header bs => s.headerBytes (bs ++ [b])
  | .body bs => s.bodyBytes (bs ++ [b])

/-- A byte with a framing error: dropped in HUNT, else it breaks the frame (R135). -/
def Slc.badByte (x : Slc) : Slc := if x.assembler.busy then x.breakFrame else x.hunt

/-- The effect of SITE_BYTE_RECEIVED. -/
def siteByteAct (byte : Byte) (stopBitOk : Bool) (s : State) : State :=
  if s.slc.listening then if stopBitOk then s.goodByte byte else s.withSlc s.slc.badByte else s

/-- SITE_BYTE_RECEIVED (R135). -/
def execSiteByteReceived (byte : Byte) (stopBitOk : Bool) (s : State) : Host.Outcome State Fault Refusal :=
  act (siteByteAct byte stopBitOk) s

/-- The effect of BYTE_GAP_EXPIRY. -/
def byteGapAct (s : State) : State := if due s.slc.byteGap s.time then s.withSlc s.slc.breakFrame else s

/-- BYTE_GAP_EXPIRY (R135). -/
def execByteGapExpiry (s : State) : Host.Outcome State Fault Refusal := act byteGapAct s

/-! ## A whole frame (R136) -/

/-- The bytes of a frame after its sync byte. -/
def frameAfterSync (station kind : Byte) (payload : List Byte) (check : Word16) : List Byte :=
  coveredBytes station kind payload ++ checkBytes check

/-- The bytes the assembler holds are the beginning of this frame: none in HUNT. -/
def Assembler.begins (a : Assembler) (bs : List Byte) : Bool :=
  match a with
  | .hunt _ => true
  | .header held => held.isPrefixOf bs
  | .body held => held.isPrefixOf bs

/-- SLC takes a whole frame: one with a length above 17 is discarded as FORM at its length byte, any other is judged
(R135, R136). -/
def State.wholeFrame (station kind : Byte) (payload : List Byte) (check : Word16) (s : State) : State :=
  if payloadLimit < payload.length then s.withSlc { s.slc.hunt with counters := s.slc.counters.bump .form }
  else s.completeFrame station kind payload check

/-- The effect of SITE_FRAME_RECEIVED: the rest of a frame arrives, of which the assembler may hold the first bytes. Bytes are
taken in JOINING and LIVE, while not in SEND. -/
def siteFrameAct (station kind : Byte) (payload : List Byte) (check : Word16) (s : State) : State :=
  if s.slc.listening = true ∧ s.slc.assembler.begins (frameAfterSync station kind payload check) = true then
    s.wholeFrame station kind payload check
  else s

/-- SITE_FRAME_RECEIVED (R136). -/
def execSiteFrameReceived (station kind : Byte) (payload : List Byte) (check : Word16) (s : State) :
    Host.Outcome State Fault Refusal :=
  act (siteFrameAct station kind payload check) s

end Sys2Proof.Machine
end

