-- ==== Sys2Proof/Machine/Report.lean ====
section
/-! DEFINITION. The report port (section 10.5): REPORT_WORD_TAKEN, the departure of a record, and what the freed entry is
given to (R177, R185, R186). -/

namespace Sys2Proof.Machine

/-- The head record leaves, and the new head is presented from its first word (R186, steps 1 and 4). -/
def Rps.removeHead (q : Rps) : Rps := { q with queue := q.queue.drop 1, port := 0 }

/-- The thinning state judged at a departure: down to the resume threshold, RPS is in NORMAL and THINNING_OFF is taken into
the set, to be served with it (R179, R186 step 2). -/
def Rps.judgeDeparture (c : Settings) (now : Nat) (q : Rps) : Rps :=
  if q.thinning = true ∧ q.occupancy = c.resumeThreshold then
    Rps.note c now (.thinningOff q.occupancy) { q with thinning := false }
  else q

/-- The waiting REPLY enters, and READY rises (R177, R192). -/
def State.admitReply (r : Reply) (s : State) : State :=
  let t := s.enter (.reply r)
  t.withCmu { t.cmu with reply := none, ready := true }

/-- The walker's waiting record enters, and the walker takes its deferred action (R105, R177). -/
def State.admitWalker (r : Record) (s : State) : State :=
  let t := s.enter r
  (t.withPwk { t.pwk with outgoing := none }).runDeferred

/-- The head of PHC's outgoing list enters; with the last of them PHC is done (R88, R177). -/
def State.admitPhoto (p : Photo) (rest : List Photo) (s : State) : State :=
  let t := s.enter (.photo p)
  (t.withPhc { t.phc with outgoing := rest }).checkDrained

/-- The pending event set is served (R183). -/
def State.serveEvents (s : State) : State := s.withRps (s.rps.serve s.cmu.settings s.time)

/-- The freed entry goes to the first that waits: CMU's REPLY, PWK's record, PHC's record; with none waiting the pending event
set is served (R177, R186 step 3). -/
def State.freeEntry (s : State) : State :=
  if s.rps.occupancy + 1 = queueCapacity then
    match s.cmu.reply, s.pwk.outgoing, s.phc.outgoing with
    | some r, _, _ => s.admitReply r
    | none, some r, _ => s.admitWalker r
    | none, none, p :: rest => s.admitPhoto p rest
    | none, none, [] => s.serveEvents
  else s.serveEvents

/-- A record departs (R186). -/
def State.depart (s : State) : State :=
  (s.withRps (s.rps.removeHead.judgeDeparture s.cmu.settings s.time)).freeEntry

/-- The effect of REPORT_WORD_TAKEN: at a tick with VALID low, ACCEPT has no effect (R185). -/
def reportWordAct (s : State) : State :=
  match s.rps.queue with
  | [] => s
  | r :: _ => if s.rps.port + 1 < r.wordCount then s.withRps { s.rps with port := s.rps.port + 1 } else s.depart

/-- REPORT_WORD_TAKEN (R185, R186). -/
def execReportWordTaken (s : State) : Host.Outcome State Fault Refusal := act reportWordAct s

end Sys2Proof.Machine
end

