-- ==== Sys2Proof/Machine/Store.lean ====
section
/-! DEFINITION. The Calibration Store (section 11.7) and the resets (R204 to R206): working tables by code, the load of a row,
the reset of the whole part, and the meanings of POWER_ON, RESET_LINE, POWER_LOSS and WRITE_COMPLETION. -/

namespace Sys2Proof.Machine

/-! ## Working tables by code (R209) -/

/-- The contents of a working table, in the layout of R209. -/
def State.tableContents (s : State) (code : Nat) : List Byte :=
  match code with
  | 0 => s.rgu.range.contents
  | 1 => walkContents s.rgu.walk
  | 2 => correctionContents s.anu.mirror.correction
  | 3 => correctionContents s.anu.head.correction
  | n => (s.phc.camera (n - 4)).contents

/-- A working table takes the values of contents. -/
def State.setTable (code : Nat) (v : List Int) (s : State) : State :=
  match code with
  | 0 => s.withRgu { s.rgu with range := rangeTableOf v }
  | 1 => s.withRgu { s.rgu with walk := walkTableOf v }
  | 2 => s.withAnu { s.anu with mirror := { s.anu.mirror with correction := correctionOf v } }
  | 3 => s.withAnu { s.anu with head := { s.anu.head with correction := correctionOf v } }
  | n => s.withPhc { s.phc with cameras := s.phc.cameras.setIfInBounds (n - 4) (cameraOf v) }

/-- The default contents of a row's table (section 11.7). -/
def defaultContents (code : Nat) : List Byte :=
  match code with
  | 0 => RangeTable.default.contents
  | 1 => walkContents (.replicate 16 0)
  | 2 => correctionContents []
  | 3 => correctionContents []
  | _ => CameraGeometry.absent.contents

/-- A working table's source. -/
def Cst.source (x : Cst) (code : Nat) : TableSource := (x.sources[code]?).getD .default

/-- A row's state. -/
def Cst.rowState (x : Cst) (row : Nat) : RowState := (x.rowStates[row]?).getD .bad

/-- A row's stored bytes. -/
def Cst.row (x : Cst) (row : Nat) : StoreRow := (x.rows[row]?).getD .erased

/-- The source of a working table and the state of its row are set. -/
def Cst.mark (row : Nat) (source : TableSource) (state : RowState) (x : Cst) : Cst :=
  { x with sources := x.sources.setIfInBounds row source, rowStates := x.rowStates.setIfInBounds row state }

/-! ## The load of a row (R200) -/

/-- A row passes: its check stands over its contents, which have the table's length and lie in its ranges (R200). -/
def StoreRow.passes (code : Nat) (r : StoreRow) : Bool :=
  r.check == some (crc16 r.contents) && contentsFit code r.contents && (firstBadField code r.contents).isNone

/-- The contents a load gives the working table (R200). -/
def StoreRow.loaded (code : Nat) (r : StoreRow) : List Byte := if r.passes code then r.contents else defaultContents code

/-- A row's working table, source and row state after its load; the event of a row that fails is the caller's (R200). -/
def State.loadTable (row : Nat) (s : State) : State :=
  let r := s.cst.row row
  let t := s.setTable row (tableValues row (r.loaded row))
  if r.passes row then t.withCst (t.cst.mark row .store .good) else t.withCst (t.cst.mark row .default .bad)

/-- An event is taken into the pending set, which is not served yet (R187). -/
def State.noteEvent (e : Event) (s : State) : State := s.withRps (s.rps.note s.cmu.settings s.time e)

/-- The load of a row during a reset (R200). -/
def State.resetLoad (row : Nat) (s : State) : State :=
  if (s.cst.row row).passes row then s.loadTable row else (s.loadTable row).noteEvent (.calRowBad row .load)

/-! ## Resets (R18, R20, R34, R55, R77, R94, R121, R137, R153, R172, R187, R206) -/

/-- Every block in its reset values, the store rows kept, the write cut, READY low during the reset. -/
def State.resetBlocks (levels : InputLevels) (s : State) : State where
  powered := true
  time := 0
  anu := .reset levels
  emt := .reset
  rgu := .reset
  pta := .reset
  phc := .reset
  pwk := .reset levels.inPosition
  slc := .reset levels.carrierSense
  pru := .reset
  rps := .reset
  cmu := .reset false
  cst := { s.cst with write := none }
  draws := s.draws
  pending := s.pending

/-- All rows loaded, row 0 first; the effective scale is the scale just loaded (R55, R200). -/
def State.loadRows (s : State) : State :=
  let t := (List.range 8).foldl (fun t row => t.resetLoad row) s
  t.withRgu { t.rgu with effectiveScale := t.rgu.range.scale }

/-- The reset-cause record is set and RESET_CAUSE taken into the set (R204). -/
def State.recordCause (cause : ResetCause) (row : Option Nat) (s : State) : State :=
  (s.withCst { s.cst with cause := cause, interruptedRow := row }).noteEvent (.resetCause cause row)

/-- A reset of the part, READY still low: blocks, rows, cause, and the pending set served at its end (R187, R204, R206). -/
def State.resetPart (cause : ResetCause) (row : Option Nat) (levels : InputLevels) (s : State) : State :=
  (((s.resetBlocks levels).loadRows).recordCause cause row).serveEvents

/-- READY rises at the end of a reset of cause POWER or LINE (R206). -/
def State.raiseReady (s : State) : State := s.withCmu { s.cmu with ready := true }

/-- The row whose write is in progress. -/
def State.writtenRow (s : State) : Option Nat := s.cst.write.map (·.row)

/-- The effect of POWER_ON: the cause is POWER and no interrupted row is recorded (R204). -/
def powerOnAct (levels : InputLevels) (s : State) : State := (s.resetPart .power none levels).raiseReady

/-- POWER_ON (R206): the part has supply from now on. -/
def execPowerOn (levels : InputLevels) (s : State) : Host.Outcome State Fault Refusal := .next (powerOnAct levels s)

/-- The effect of RESET_LINE: a write in progress is cut, and its row recorded (R204). -/
def resetLineAct (levels : InputLevels) (s : State) : State := (s.resetPart .line s.writtenRow levels).raiseReady

/-- RESET_LINE (R204, R206). -/
def execResetLine (levels : InputLevels) (s : State) : Host.Outcome State Fault Refusal := act (resetLineAct levels) s

/-- The effect of POWER_LOSS: supply is gone, and with it every state but the store rows; outputs are low. A row whose write
was in progress is erased, and holds no valid check (R203, R204). -/
def powerLossAct (s : State) : State := { s.resetBlocks lowLevels with powered := false }

/-- POWER_LOSS (R204). -/
def execPowerLoss (s : State) : Host.Outcome State Fault Refusal := act powerLossAct s

/-! ## The completion of a write (R203) -/

/-- The row holds the snapshot and its check, and is GOOD; CST is IDLE. -/
def Cst.completeWrite (w : RowWrite) (x : Cst) : Cst :=
  { x with
    rows := x.rows.setIfInBounds w.row ⟨w.snapshot, some (crc16 w.snapshot)⟩
    rowStates := x.rowStates.setIfInBounds w.row .good
    write := none }

/-- The effect of WRITE_COMPLETION. -/
def writeCompletionAct (s : State) : State :=
  match s.cst.write with
  | some w => if w.expiry ≤ s.time then (s.withCst (s.cst.completeWrite w)).raise (.calStored w.row) else s
  | none => s

/-- WRITE_COMPLETION (R203). -/
def execWriteCompletion (s : State) : Host.Outcome State Fault Refusal := act writeCompletionAct s

end Sys2Proof.Machine
end

