-- ==== Sys2Proof/Machine/Configure.lean ====
section
/-! DEFINITION. CONFIGURE's judgement of its entries and its effect (sections 11.4 and 12.2: R194, R195, R209). -/

namespace Sys2Proof.Machine

/-! ## Entries and refusals (R194, step 1) -/

/-- The value a CONFIGURE gives a setting, none where it is absent. -/
def given (es : List SettingEntry) (k : Nat) : Option Int := (es.find? fun e => e.number.toNat == k).map (·.value.toInt)

/-- The setting number that an entry names wrongly: outside 1..29, or named by an earlier entry (R194). -/
def badEntry (seen : List Nat) : List SettingEntry → Option Nat
  | [] => none
  | e :: es =>
    if e.number.toNat = 0 ∨ 29 < e.number.toNat ∨ seen.contains e.number.toNat = true then some e.number.toNat
    else badEntry (e.number.toNat :: seen) es

/-- The station number is present and in 1..15. -/
def stationGiven (es : List SettingEntry) : Bool :=
  match given es 1 with
  | some n => decide (1 ≤ n ∧ n ≤ 15)
  | none => false

/-- The enumerated settings with their greatest code (R209). -/
def enumerated : List (Nat × Int) := [(12, 2), (14, 1), (16, 1), (17, 1)]

/-- The first enumerated setting whose value lies outside its list. -/
def badEnumerated (es : List SettingEntry) : Option Nat :=
  (enumerated.find? fun e => ((given es e.1).any fun v => decide (v < 0 ∨ e.2 < v))).map (·.1)

/-- The setting that refuses a CONFIGURE (R194, step 1). -/
def refusedSetting (es : List SettingEntry) : Option Nat :=
  if stationGiven es = false then some 1
  else match badEntry [] es with
    | some k => some k
    | none => badEnumerated es

/-! ## Clamps (R194, steps 2 and 3) -/

/-- A numeric setting: number, bounds and default (section 11.4). The upper bounds of D and of the resume threshold are the
dependent clamps of step 3. -/
structure NumericSpec where
  number : Nat
  lo : Int
  hi : Int
  default : Int
deriving DecidableEq, Repr

/-- No upper bound of its own: every 32-bit value lies below it. -/
def unbounded : Int := 2147483647

/-- The numeric settings in table order (section 11.4, R209). -/
def numericSpecs : List NumericSpec :=
  [⟨2, 12, 16, 14⟩, ⟨3, 14, 20, 18⟩, ⟨4, 5000, 100000, 9500⟩, ⟨5, 5000, 100000, 10500⟩, ⟨6, 16384, 131072, 65536⟩,
   ⟨7, 100, 10000, 200⟩, ⟨8, 0, unbounded, 25⟩, ⟨9, 0, 100000, 6000⟩, ⟨10, 1000, 25000000, 3000000⟩,
   ⟨11, 0, 50000, 20000⟩, ⟨13, 0, 65535, 500⟩, ⟨15, -300, 300, 0⟩, ⟨18, 1, 60, 2⟩] ++
  [⟨19, 100, 200000, 10000⟩, ⟨20, 100, 200000, 10000⟩, ⟨21, 100, 200000, 10000⟩, ⟨22, 100, 200000, 10000⟩,
   ⟨23, 0, 2000, 100⟩, ⟨24, 0, 2000, 100⟩, ⟨25, 0, 2000, 100⟩, ⟨26, 0, 2000, 100⟩, ⟨27, 256, 1983, 1536⟩,
   ⟨28, 0, unbounded, 1024⟩]

/-- The value of a numeric setting after its own clamp; an absent one takes its default (R194, step 2). -/
def NumericSpec.value (p : NumericSpec) (es : List SettingEntry) : Int :=
  match given es p.number with
  | some v => clampInt p.lo p.hi v
  | none => p.default

/-- A present value was replaced at step 2. -/
def NumericSpec.changed (p : NumericSpec) (es : List SettingEntry) : Bool :=
  (given es p.number).any fun v => clampInt p.lo p.hi v != v

/-- The value of the setting of a number after step 2. -/
def ownValue (es : List SettingEntry) (k : Nat) : Nat :=
  ((numericSpecs.find? fun p => p.number == k).map fun p => (p.value es).toNat).getD 0

/-- floor(P/8) for the P of the command. -/
def ditherLimit (es : List SettingEntry) : Nat := ownValue es 7 / 8

/-- D after step 2; an absent one takes its default floor(P/8). -/
def ownDither (es : List SettingEntry) : Nat := if (given es 8).isSome then ownValue es 8 else ditherLimit es

/-- The settings changed at step 3: the low period limit, D and the resume threshold. -/
def dependentChanged (es : List SettingEntry) (k : Nat) : Bool :=
  match k with
  | 4 => decide (ownValue es 5 < ownValue es 4)
  | 8 => decide (ditherLimit es < ownDither es)
  | 28 => decide (ownValue es 27 ≤ ownValue es 28)
  | _ => false

/-- The clamped settings in table order (R194). -/
def clampedSettings (es : List SettingEntry) : List Nat :=
  (numericSpecs.filter fun p => p.changed es || dependentChanged es p.number).map (·.number)

/-! ## The resulting configuration -/

def continuityOf : Option Int → ContinuityMode
  | some 0 => .off
  | some 2 => .both
  | _ => .oneSide

def unconfirmedOf : Option Int → UnconfirmedAction
  | some 0 => .mark
  | _ => .drop

/-- A yes or no setting whose default is yes. -/
def yesOf : Option Int → Bool
  | some 0 => false
  | _ => true

/-- The configuration of a CONFIGURE after its clamps (R194). -/
def configurationOf (es : List SettingEntry) : Settings where
  station := (given es 1).map Int.toNat
  mirrorExponent := ownValue es 2
  headExponent := ownValue es 3
  periodLow := min (ownValue es 4) (ownValue es 5)
  periodHigh := ownValue es 5
  blindHalfWidth := ownValue es 6
  basePeriod := ownValue es 7
  dither := min (ownDither es) (ditherLimit es)
  minRange := ownValue es 9
  maxRange := ownValue es 10
  proximityLimit := ownValue es 11
  continuity := continuityOf (given es 12)
  tolerance := ownValue es 13
  unconfirmed := unconfirmedOf (given es 14)
  ppm := (given es 15).elim 0 (clampInt (-300) 300)
  honourHolds := yesOf (given es 16)
  announceHolds := yesOf (given es 17)
  holdMinimum := ownValue es 18
  exposure := Vector.ofFn fun i : Fin 4 => ownValue es (19 + i)
  settle := Vector.ofFn fun i : Fin 4 => ownValue es (23 + i)
  thinThreshold := ownValue es 27
  resumeThreshold := min (ownValue es 28) (ownValue es 27 - 1)
  eventMask := ((given es 29).map (BitVec.ofInt 20)).getD 0

/-! ## The effect at the blocks (R195) -/

/-- The encoders whose exponent changed are restarted (R5). -/
def Anu.reconfigure (old new : Settings) (x : Anu) : Anu :=
  { x with
    mirror := if old.mirrorExponent = new.mirrorExponent then x.mirror else x.mirror.restart
    head := if old.headExponent = new.headExponent then x.head else x.head.restart }

/-- RPS compares its occupancy with the new thresholds (R180). -/
def State.judgeThresholds (s : State) : State :=
  if s.rps.thinning = false ∧ s.cmu.settings.thinThreshold ≤ s.rps.occupancy then
    (s.withRps { s.rps with thinning := true }).raise (.thinningOn s.rps.occupancy)
  else if s.rps.thinning = true ∧ s.rps.occupancy ≤ s.cmu.settings.resumeThreshold then
    (s.withRps { s.rps with thinning := false }).raise (.thinningOff s.rps.occupancy)
  else s

/-- A configuration comes into force (R194 step 4, R195). -/
def State.configured (new : Settings) (s : State) : State :=
  ((s.withAnu (s.anu.reconfigure s.cmu.settings new)).withCmu
    { s.cmu with settings := new, device := .ready }).judgeThresholds

/-- The BAD_VALUE that names a setting or a table field (R215). -/
def settingReply (code k : Nat) : Reply := ⟨code, .badValue, 5, .setting k⟩

/-- The OK of an accepted CONFIGURE (R194, R215). -/
def configuredReply (clamped : List Nat) : Reply := ⟨1, .ok, 0, .configured clamped.length (clamped.headD 0)⟩

/-- The command CONFIGURE (R193, R194). -/
def configureAct (entries : List SettingEntry) (s : State) : State :=
  if s.cmu.device = .running then s.sendReply (plainReply 1 .wrongState)
  else match refusedSetting entries with
    | some k => s.sendReply (settingReply 1 k)
    | none =>
      if s.slc.membership = .leaving then s.sendReply ⟨1, .busy, 2, .nothing⟩
      else (s.configured (configurationOf entries)).sendReply (configuredReply (clampedSettings entries))

end Sys2Proof.Machine
end

