-- ==== Sys2Proof/Machine/Commands.lean ====
section
/-! DEFINITION. The other commands' effects and replies (chapter 11): tables, store, plan, runs, pause and read-back. Each
composes its REPLY when the command is taken and offers it once its effects are made (R192). -/

namespace Sys2Proof.Machine

/-! ## Tables and store (R199, R201 to R203) -/

/-- The command LOAD_TABLE (R201). -/
def loadTableAct (code : Byte) (contents : List Byte) (s : State) : State :=
  if s.cmu.device = .running then s.sendReply (plainReply 2 .wrongState)
  else if 7 < code.toNat then s.sendReply (argumentReply 2)
  else match firstBadField code.toNat contents with
    | some k => s.sendReply (settingReply 2 k)
    | none =>
      let t := s.setTable code.toNat (tableValues code.toNat contents)
      (t.withCst { t.cst with sources := t.cst.sources.setIfInBounds code.toNat .command }).sendReply (plainReply 2 .ok)

/-- The command READ_TABLE (R199). -/
def readTableAct (code : Byte) (s : State) : State :=
  if 7 < code.toNat then s.sendReply (argumentReply 3)
  else s.sendReply ⟨3, .ok, 0, .table code.toNat (s.cst.source code.toNat) (s.cst.rowState code.toNat) (s.tableContents code.toNat)⟩

/-- The BUSY of a write in progress (R215). -/
def writingReply (code : Nat) : Reply := ⟨code, .busy, 1, .nothing⟩

/-- The length of a row write: 4 ms (R203). -/
def writeTicks : Nat := ticksOfMs 4

/-- CST accepts a write: snapshot, the row erased and WRITING, the expiry (R203). -/
def Cst.startWrite (now row : Nat) (snapshot : List Byte) (x : Cst) : Cst :=
  { x with
    rows := x.rows.setIfInBounds row .erased
    rowStates := x.rowStates.setIfInBounds row .writing
    write := some ⟨row, snapshot, now + writeTicks⟩ }

/-- The command CAL_STORE (R203). -/
def calStoreAct (row : Byte) (s : State) : State :=
  if 7 < row.toNat then s.sendReply (argumentReply 4)
  else if s.cst.write.isSome then s.sendReply (writingReply 4)
  else (s.withCst (s.cst.startWrite s.time row.toNat (s.tableContents row.toNat))).sendReply (plainReply 4 .ok)

/-- The OK of a CAL_RELOAD: LOADED or DEFAULTED (R202, R215). -/
def reloadReply (passed : Bool) : Reply := ⟨5, .ok, if passed then 1 else 2, .nothing⟩

/-- A row reloaded (R202): CAL_ROW_BAD is raised where it fails. -/
def State.reload (row : Nat) (s : State) : State :=
  if (s.cst.row row).passes row then s.loadTable row else (s.loadTable row).raise (.calRowBad row .reload)

/-- The command CAL_RELOAD (R202). -/
def calReloadAct (row : Byte) (s : State) : State :=
  if s.cmu.device = .running then s.sendReply (plainReply 5 .wrongState)
  else if 7 < row.toNat then s.sendReply (argumentReply 5)
  else if s.cst.rowState row.toNat = .writing then s.sendReply (writingReply 5)
  else (s.reload row.toNat).sendReply (reloadReply ((s.cst.row row.toNat).passes row.toNat))

/-! ## The plan (R96, R199) -/

/-- Records written to consecutive indexes. -/
def writeRecords : Nat → List PlanRecord → Vector PlanRecord 64 → Vector PlanRecord 64
  | _, [], plan => plan
  | i, r :: rs, plan => writeRecords (i + 1) rs (plan.setIfInBounds i r)

/-- The command PLAN_WRITE (R96). -/
def planWriteAct (start : Byte) (records : List (List Byte)) (s : State) : State :=
  if s.cmu.device = .running then s.sendReply (plainReply 6 .wrongState)
  else if records.isEmpty = true ∨ 64 < start.toNat + records.length then s.sendReply (argumentReply 6)
  else match parseRecords records with
    | none => s.sendReply (argumentReply 6)
    | some rs => (s.withPwk { s.pwk with plan := writeRecords start.toNat rs s.pwk.plan }).sendReply (plainReply 6 .ok)

/-- The records of the plan from an index. -/
def Pwk.records (x : Pwk) (start count : Nat) : List PlanRecord := (List.range count).map fun j => x.record (start + j)

/-- The command PLAN_READ (R96, R199). -/
def planReadAct (start count : Byte) (s : State) : State :=
  if count = 0 ∨ 64 < start.toNat + count.toNat then s.sendReply (argumentReply 7)
  else s.sendReply ⟨7, .ok, 0, .plan start.toNat (s.pwk.records start.toNat count.toNat)⟩

/-! ## Runs (R196, R197) -/

/-- The walker is armed (R98); the START index is the record it will take. -/
def Pwk.arm (index : Nat) (x : Pwk) : Pwk :=
  { x with
    armed := true
    recordIndex := index
    saved := none
    pausePending := false
    ownHold := none
    counters := .replicate 64 none
    lineCounter := 1
    attemptNumber := 1 }

/-- Membership moves to JOINING, at once or at the end of the leave in progress (R134). -/
def State.joinLine (s : State) : State :=
  if s.slc.membership = .leaving then
    s.withSlc (s.slc.startInLeave (s.cmu.settings.station.getD 0) (s.emt.startTime.getD 0))
  else s.enterJoining

/-- RGU fixes the effective scale (R48). -/
def Rgu.fixScale (ppm : Int) (x : Rgu) : Rgu := { x with effectiveScale := effectiveScaleOf x.range.scale ppm }

/-- A run begins at every block (R196). -/
def State.beginRun (index : Nat) (s : State) : State :=
  let t := s.withCmu { s.cmu with device := .running }
  let u := (t.withEmt (t.emt.start t.cmu.settings t.time)).withRgu (t.rgu.fixScale t.cmu.settings.ppm)
  (u.withPwk (u.pwk.arm index)).joinLine

/-- The OK of an accepted START: the START time and the membership at acceptance (R196, R215). -/
def State.startedReply (s : State) : Reply := ⟨8, .ok, 0, .started (s.emt.startTime.getD 0) s.slc.membership⟩

/-- The BAD_PLAN that names a record (R215). -/
def badPlanReply (i : Nat) : Reply := ⟨8, .badPlan, 0, .planIndex i⟩

/-- The command START (R193, R196). -/
def startAct (index : Byte) (s : State) : State :=
  if s.cmu.device ≠ .ready then s.sendReply (plainReply 8 .wrongState)
  else if 63 < index.toNat then s.sendReply (argumentReply 8)
  else match s.pwk.validate s.cmu.settings.blindHalfWidth index.toNat with
    | some i => s.sendReply (badPlanReply i)
    | none => (s.beginRun index.toNat).sendReply (s.beginRun index.toNat).startedReply

/-- The command STOP (R197). -/
def stopAct (s : State) : State :=
  if s.cmu.device = .running then s.endByStop.sendReply (plainReply 9 .ok) else s.sendReply (plainReply 9 .wrongState)

/-! ## Pause and continue (R114, R115, R118) -/

/-- The walker takes a PAUSE (R114). -/
def Pwk.pause (x : Pwk) : Pwk :=
  match x.state with
  | .lineWait => { x with state := .paused }
  | .paused => x
  | _ => { x with pausePending := true }

/-- The command PAUSE (R114). -/
def pauseAct (s : State) : State :=
  if s.cmu.device = .running then (s.withPwk s.pwk.pause).sendReply (plainReply 10 .ok)
  else s.sendReply (plainReply 10 .wrongState)

/-- When the hold minimum will have passed, while own hold is set (R118). -/
def State.holdEnd (s : State) : Option Nat := s.pwk.ownHold.map (· + ticksOfS s.cmu.settings.holdMinimum)

/-- The hold minimum has passed since the hit time (R118). -/
def State.holdPassed (s : State) : Bool := s.holdEnd.all fun t => decide (t ≤ s.time)

/-- A halt ends (R118). -/
def State.endHalt (s : State) : State :=
  let t := (s.withPwk { s.pwk with ownHold := none }).announceHold
  (t.withPwk t.pwk.toLineWait).runDeferred

/-- A pause ends (R115). -/
def State.endPause (s : State) : State := (s.withPwk { s.pwk with state := .lineWait }).runDeferred

/-- The walker takes a CONTINUE in RUNNING (R115, R118): its outcome and its effect. -/
def State.continueWalker (s : State) : ReplyOutcome × State :=
  match s.pwk.state with
  | .paused => (.ok, s.endPause)
  | .halted => if s.holdPassed then (.ok, s.endHalt) else (.tooEarly, s)
  | _ => if s.pwk.pausePending then (.ok, s.withPwk { s.pwk with pausePending := false }) else (.wrongState, s)

/-- The command CONTINUE (R115). -/
def continueAct (s : State) : State :=
  if s.cmu.device = .running then s.continueWalker.2.sendReply (plainReply 11 s.continueWalker.1)
  else s.sendReply (plainReply 11 .wrongState)

/-! ## Read-back (R120, R151, R199) -/

/-- The items of a STATUS reply (R199). -/
def State.statusReport (s : State) : StatusReport where
  device := s.cmu.device
  station := s.cmu.settings.station
  membership := s.slc.membership
  walker := s.pwk.state
  armed := s.pwk.armed
  pausePending := s.pwk.pausePending
  holdEnd := if s.pwk.state = .halted then s.holdEnd else none
  recordIndex := s.pwk.recordIndex
  lineCounter := s.pwk.lineCounter
  attempt := s.pwk.attemptNumber
  counted := s.pwk.counted
  monitor := s.anu.monitor
  occupancy := s.rps.occupancy
  thinning := s.rps.thinning
  writeRow := s.writtenRow
  cause := s.cst.cause
  interruptedRow := s.cst.interruptedRow
  laneDiscards := s.cmu.laneDiscards

/-- The command STATUS (R199). -/
def statusAct (s : State) : State := s.sendReply ⟨12, .ok, 0, .status s.statusReport⟩

/-- A duration in ms, rounded down. -/
def msOf (ticks : Nat) : Nat := ticks / 100000

/-- One entry of a PEERS reply (R151). -/
def peerReport (now : Nat) (e : Nat × Peer) : PeerReport where
  station := e.1
  seen := e.2.seen
  sinceHeard := msOf (now - e.2.lastHeard)
  firing := e.2.firing
  hold := e.2.hold
  grantedToMe := e.2.grantedToMe
  windowLeft := e.2.window.map fun t => msOf (t - now)

/-- The entries part of a PEERS reply: empty outside JOINING and LIVE (R151). -/
def State.peerReports (s : State) : List PeerReport :=
  if s.slc.membership = .joining ∨ s.slc.membership = .live then s.pru.entries.map (peerReport s.time) else []

/-- The command PEERS (R151). -/
def peersAct (s : State) : State :=
  s.sendReply ⟨13, .ok, 0, .peers s.cmu.settings.station s.slc.membership s.peerReports s.slc.counters⟩

/-- The command PHOTOS (R199). -/
def photosAct (s : State) : State :=
  s.sendReply ⟨14, .ok, 0, .photos s.phc.catalogue s.phc.nextNumber s.phc.sequence⟩

/-- The command RESET (R205): the reset, then its reply behind the reset's events, and READY with it. -/
def resetAct (levels : InputLevels) (s : State) : State :=
  (s.resetPart .command s.writtenRow levels).sendReply (plainReply 15 .ok)

end Sys2Proof.Machine
end

