-- ==== Sys2Proof/Machine/Lane.lean ====
section
/-! DEFINITION. The command lane (section 11.2): bytes, the 1 ms gap, whole frames, faulty frames, and the meaning of every
command row. -/

namespace Sys2Proof.Machine

/-! ## The receiver (R190) -/

/-- The gap that ends a frame in reception: 1 ms (R190). -/
def laneGapTicks : Nat := ticksOfMs 1

/-- A count of n more lane bytes dropped, saturating at 65,535 (R190). -/
def addDiscards (count n : Nat) : Nat := min (count + n) 65535

/-- n lane bytes are dropped (R190). -/
def State.dropLane (n : Nat) (s : State) : State :=
  s.withCmu { s.cmu with laneDiscards := addDiscards s.cmu.laneDiscards n }

/-- A frame has ended: the receiver is IDLE, and READY is low until the reply has entered (R190, R192). -/
def State.frameEnded (s : State) : State := s.withCmu { s.cmu with receiver := none, laneGap := none, ready := false }

/-- The lane can take the rest of a frame: the receiver holds its first bytes, or is IDLE with READY high (R190). -/
def State.takesFrame (frame : List Byte) (s : State) : Bool :=
  match s.cmu.receiver with
  | some held => held.isPrefixOf frame
  | none => s.cmu.ready

/-- A whole frame on the lane, with what it does: taken, or dropped byte by byte while READY is low and the receiver is IDLE;
bytes that do not go on the frame in reception are no arrival of this frame (R190). -/
def State.laneFrame (frame : List Byte) (f : State → State) (s : State) : State :=
  if s.takesFrame frame then f s.frameEnded
  else if s.cmu.receiver.isNone then s.dropLane frame.length
  else s

/-! ## Faults (R191) -/

/-- The detail code of a frame fault (R215). -/
def faultDetail : FrameFault → Nat
  | .check => 2
  | .unknown => 3
  | .form => 4

/-- The BAD_VALUE of a faulty frame, with the command code as received (R191). -/
def faultReply (code : Nat) (f : FrameFault) : Reply := ⟨code, .badValue, faultDetail f, .nothing⟩

/-- The operands of a command fit its payload: what a frame that passes R191 always has. -/
def operandsFit : Instr → Bool
  | .configure entries => decide (entries.length ≤ 255)
  | .loadTable code contents => decide (7 < code.toNat) || contentsFit code.toNat contents
  | .planWrite _ records => decide (records.length ≤ 255) && records.all fun r => r.length == 23
  | _ => true

/-- A command's frame on the lane: judged for FORM (R191), then carried out. -/
def State.commandFrame (i : Instr) (f : State → State) (s : State) : State :=
  s.laneFrame (encodeFrame i) fun t => if operandsFit i then f t else t.sendReply (faultReply (commandCode i) .form)

/-! ## Bytes (R190) -/

/-- What a command does once its frame has passed R191. -/
def commandAct (i : Instr) (s : State) : State :=
  match i with
  | .configure entries => configureAct entries s
  | .loadTable code contents => loadTableAct code contents s
  | .readTable code => readTableAct code s
  | .calStore row => calStoreAct row s
  | .calReload row => calReloadAct row s
  | .planWrite start records => planWriteAct start records s
  | .planRead start count => planReadAct start count s
  | .start index => startAct index s
  | .stop => stopAct s
  | .pause => pauseAct s
  | .continueRun => continueAct s
  | .status => statusAct s
  | .peers => peersAct s
  | .photos => photosAct s
  | .reset levels => resetAct levels s
  | _ => s

/-- The raw levels that a RESET clocked byte by byte finds: free but for the two inputs whose levels the part holds (R18). Log
entry 7. -/
def State.levelsFound (s : State) : InputLevels :=
  { Config.freeLevels s.draws with carrierSense := s.slc.carrierSense, inPosition := s.pwk.inPosition }

/-- A RESET frame clocked byte by byte draws free levels; no other frame draws any. -/
def State.drawnFor (i : Instr) (s : State) : State :=
  match i with
  | .reset _ => s.drawn
  | _ => s

/-- A complete frame's judgement and what follows (R191, R193). -/
def State.runFrame (frame : List Byte) (s : State) : State :=
  match judgeFrame s.levelsFound frame with
  | .ok i => commandAct i (s.drawnFor i)
  | .error f => s.sendReply (faultReply (field frame 0 1) f)

/-- The bytes of a frame in reception; the frame is judged when they are complete (R190). -/
def State.receiveBytes (bs : List Byte) (s : State) : State :=
  if frameComplete bs then s.frameEnded.runFrame bs
  else s.withCmu { s.cmu with receiver := some bs, laneGap := some (s.time + laneGapTicks), ready := false }

/-- The effect of LANE_BYTE_RECEIVED: a byte while READY is high or a frame is in reception. -/
def laneByteAct (byte : Byte) (s : State) : State :=
  match s.cmu.receiver with
  | some bs => s.receiveBytes (bs ++ [byte])
  | none => if s.cmu.ready then s.receiveBytes [byte] else s.dropLane 1

/-- LANE_BYTE_RECEIVED (R190). -/
def execLaneByteReceived (byte : Byte) (s : State) : Host.Outcome State Fault Refusal := act (laneByteAct byte) s

/-- The effect of LANE_BYTE_DROPPED: a byte while READY is low and no frame is in reception. -/
def laneDropAct (s : State) : State := if s.cmu.receiver.isNone && !s.cmu.ready then s.dropLane 1 else s

/-- LANE_BYTE_DROPPED (R190). -/
def execLaneByteDropped (s : State) : Host.Outcome State Fault Refusal := act laneDropAct s

/-- The BAD_VALUE of a BROKEN frame: its command code, or none where its header was not complete (R191). -/
def brokenReply (bs : List Byte) : Reply := ⟨if 3 ≤ bs.length then field bs 0 1 else 0, .badValue, 1, .nothing⟩

/-- The effect of LANE_GAP_EXPIRY. -/
def laneGapAct (s : State) : State :=
  match s.cmu.receiver with
  | some bs => if due s.cmu.laneGap s.time then s.frameEnded.sendReply (brokenReply bs) else s
  | none => s

/-- LANE_GAP_EXPIRY (R190, R191). -/
def execLaneGapExpiry (s : State) : Host.Outcome State Fault Refusal := act laneGapAct s

/-- The fault of a frame's bytes, if they are a complete frame and no more, and faulty (R191). -/
def frameFaultOf (frame : List Byte) : Option FrameFault :=
  if frameComplete frame = true ∧ frame.length = 5 + announcedLength frame then
    match judgeFrame lowLevels frame with
    | .error f => some f
    | .ok _ => none
  else none

/-- The effect of BAD_FRAME: the faulty frame is answered; bytes that are not a complete faulty frame are no such event. -/
def badFrameAct (frame : List Byte) (s : State) : State :=
  match frameFaultOf frame with
  | some f => s.laneFrame frame fun t => t.sendReply (faultReply (field frame 0 1) f)
  | none => s

/-- BAD_FRAME (R191). -/
def execBadFrame (frame : List Byte) (s : State) : Host.Outcome State Fault Refusal := act (badFrameAct frame) s

/-! ## Commands -/

/-- CONFIGURE (R194). -/
def execConfigure (entries : List SettingEntry) (s : State) : Host.Outcome State Fault Refusal :=
  act (State.commandFrame (.configure entries) (configureAct entries)) s

/-- LOAD_TABLE (R201). -/
def execLoadTable (code : Byte) (contents : List Byte) (s : State) : Host.Outcome State Fault Refusal :=
  act (State.commandFrame (.loadTable code contents) (loadTableAct code contents)) s

/-- READ_TABLE (R199). -/
def execReadTable (code : Byte) (s : State) : Host.Outcome State Fault Refusal :=
  act (State.commandFrame (.readTable code) (readTableAct code)) s

/-- CAL_STORE (R203). -/
def execCalStore (row : Byte) (s : State) : Host.Outcome State Fault Refusal :=
  act (State.commandFrame (.calStore row) (calStoreAct row)) s

/-- CAL_RELOAD (R202). -/
def execCalReload (row : Byte) (s : State) : Host.Outcome State Fault Refusal :=
  act (State.commandFrame (.calReload row) (calReloadAct row)) s

/-- PLAN_WRITE (R96). -/
def execPlanWrite (start : Byte) (records : List (List Byte)) (s : State) : Host.Outcome State Fault Refusal :=
  act (State.commandFrame (.planWrite start records) (planWriteAct start records)) s

/-- PLAN_READ (R199). -/
def execPlanRead (start count : Byte) (s : State) : Host.Outcome State Fault Refusal :=
  act (State.commandFrame (.planRead start count) (planReadAct start count)) s

/-- START (R196). -/
def execStart (index : Byte) (s : State) : Host.Outcome State Fault Refusal :=
  act (State.commandFrame (.start index) (startAct index)) s

/-- STOP (R197). -/
def execStop (s : State) : Host.Outcome State Fault Refusal := act (State.commandFrame .stop stopAct) s

/-- PAUSE (R114). -/
def execPause (s : State) : Host.Outcome State Fault Refusal := act (State.commandFrame .pause pauseAct) s

/-- CONTINUE (R115). -/
def execContinueRun (s : State) : Host.Outcome State Fault Refusal := act (State.commandFrame .continueRun continueAct) s

/-- STATUS (R199). -/
def execStatus (s : State) : Host.Outcome State Fault Refusal := act (State.commandFrame .status statusAct) s

/-- PEERS (R151). -/
def execPeers (s : State) : Host.Outcome State Fault Refusal := act (State.commandFrame .peers peersAct) s

/-- PHOTOS (R199). -/
def execPhotos (s : State) : Host.Outcome State Fault Refusal := act (State.commandFrame .photos photosAct) s

/-- RESET (R205). -/
def execReset (levels : InputLevels) (s : State) : Host.Outcome State Fault Refusal :=
  act (State.commandFrame (.reset levels) (resetAct levels)) s

end Sys2Proof.Machine
end

