-- ==== Sys2Proof/WellFormed.lean ====
section
/-! DEFINITION. Well-formedness of a command: its operands are values that the pins and frames of the part can carry. -/

namespace Sys2Proof

open Sys2Proof.Machine (parseTransfer frameFaultOf operandsFit)

/-- Bytes of one echo set transfer: some, and where they begin with its header no more than the transfer (R219). -/
def transferBytes (header : Bool) (bs : List Byte) : Bool :=
  !bs.isEmpty && (!header || match parseTransfer bs with
    | some (_, rest) => rest.isEmpty
    | none => true)

/-- A command's operands are in their ranges: a camera 0..3 (R86), a station 1..15 (R138), a site line payload of at most
255 bytes as its length byte gives it (R217), bytes of one transfer (R219), a complete faulty frame (R191), and the shapes of the
command payloads (R209). -/
def Instr.wellFormed (i : Instr) : Bool :=
  match i with
  | .cameraExposureEnd camera => decide (camera ≤ 3)
  | .ageTimerExpiry station => decide (1 ≤ station ∧ station ≤ 15)
  | .quietWindowExpiry station => decide (1 ≤ station ∧ station ≤ 15)
  | .siteFrameReceived _ _ payload _ => decide (payload.length ≤ 255)
  | .echoSet transfer => transferBytes transfer.header transfer.bytes
  | .badFrame frame => (frameFaultOf frame).isSome
  | .configure entries => operandsFit (.configure entries)
  | .loadTable code contents => operandsFit (.loadTable code contents) && decide (contents.length < 65535)
  | .planWrite first records => operandsFit (.planWrite first records)
  | .powerOn _ => true
  | .resetLine _ => true
  | .encoderEdge _ _ _ => true
  | .encoderIndex _ _ => true
  | .absenceTimerExpiry => true
  | .localTimeLimit => true
  | .scheduledInstant => true
  | .firePulseEnd => true
  | .emitExpiry => true
  | .finishReport => true
  | .attemptLimitExpiry => true
  | .inPositionRise => true
  | .headFaultTimerExpiry => true
  | .settleEnd => true
  | .grantTimeout => true
  | .photoRelease => true
  | .carrierSenseRise => true
  | .carrierSenseFall => true
  | .accessTimerExpiry => true
  | .sendingEnd => true
  | .jamTimerExpiry => true
  | .beaconTimerExpiry => true
  | .leaveTimerExpiry => true
  | .byteGapExpiry => true
  | .joinTimerExpiry => true
  | .reportWordTaken => true
  | .laneByteDropped => true
  | .laneGapExpiry => true
  | .readTable _ => true
  | .calStore _ => true
  | .writeCompletion => true
  | .calReload _ => true
  | .planRead _ _ => true
  | .start _ => true
  | .stop => true
  | .pause => true
  | .continueRun => true
  | .status => true
  | .peers => true
  | .photos => true
  | .reset _ => true
  | .siteByteReceived _ _ => true
  | .laneByteReceived _ => true
  | .powerLoss => true

end Sys2Proof
end

