-- ==== Sys2Proof/Machine/Dispatch.lean ====
section
/-! DEFINITION. The dispatch: one arm for every row of the opcode table, each a direct call of that row's meaning. -/

namespace Sys2Proof.Machine

def exec (i : Instr) (s : State) : Host.Outcome State Fault Refusal :=
  match i with
  | .powerOn levels => Sys2Proof.Machine.execPowerOn levels s
  | .resetLine levels => Sys2Proof.Machine.execResetLine levels s
  | .encoderEdge enc a b => Sys2Proof.Machine.execEncoderEdge enc a b s
  | .encoderIndex enc level => Sys2Proof.Machine.execEncoderIndex enc level s
  | .absenceTimerExpiry => Sys2Proof.Machine.execAbsenceTimerExpiry s
  | .localTimeLimit => Sys2Proof.Machine.execLocalTimeLimit s
  | .scheduledInstant => Sys2Proof.Machine.execScheduledInstant s
  | .firePulseEnd => Sys2Proof.Machine.execFirePulseEnd s
  | .emitExpiry => Sys2Proof.Machine.execEmitExpiry s
  | .echoSet transfer => Sys2Proof.Machine.execEchoSet transfer s
  | .finishReport => Sys2Proof.Machine.execFinishReport s
  | .attemptLimitExpiry => Sys2Proof.Machine.execAttemptLimitExpiry s
  | .inPositionRise => Sys2Proof.Machine.execInPositionRise s
  | .headFaultTimerExpiry => Sys2Proof.Machine.execHeadFaultTimerExpiry s
  | .settleEnd => Sys2Proof.Machine.execSettleEnd s
  | .grantTimeout => Sys2Proof.Machine.execGrantTimeout s
  | .cameraExposureEnd camera => Sys2Proof.Machine.execCameraExposureEnd camera s
  | .photoRelease => Sys2Proof.Machine.execPhotoRelease s
  | .carrierSenseRise => Sys2Proof.Machine.execCarrierSenseRise s
  | .carrierSenseFall => Sys2Proof.Machine.execCarrierSenseFall s
  | .accessTimerExpiry => Sys2Proof.Machine.execAccessTimerExpiry s
  | .sendingEnd => Sys2Proof.Machine.execSendingEnd s
  | .jamTimerExpiry => Sys2Proof.Machine.execJamTimerExpiry s
  | .beaconTimerExpiry => Sys2Proof.Machine.execBeaconTimerExpiry s
  | .leaveTimerExpiry => Sys2Proof.Machine.execLeaveTimerExpiry s
  | .siteFrameReceived station kind payload check => Sys2Proof.Machine.execSiteFrameReceived station kind payload check s
  | .byteGapExpiry => Sys2Proof.Machine.execByteGapExpiry s
  | .ageTimerExpiry station => Sys2Proof.Machine.execAgeTimerExpiry station s
  | .joinTimerExpiry => Sys2Proof.Machine.execJoinTimerExpiry s
  | .quietWindowExpiry station => Sys2Proof.Machine.execQuietWindowExpiry station s
  | .reportWordTaken => Sys2Proof.Machine.execReportWordTaken s
  | .laneByteDropped => Sys2Proof.Machine.execLaneByteDropped s
  | .laneGapExpiry => Sys2Proof.Machine.execLaneGapExpiry s
  | .badFrame frame => Sys2Proof.Machine.execBadFrame frame s
  | .configure entries => Sys2Proof.Machine.execConfigure entries s
  | .loadTable code contents => Sys2Proof.Machine.execLoadTable code contents s
  | .readTable code => Sys2Proof.Machine.execReadTable code s
  | .calStore row => Sys2Proof.Machine.execCalStore row s
  | .writeCompletion => Sys2Proof.Machine.execWriteCompletion s
  | .calReload row => Sys2Proof.Machine.execCalReload row s
  | .planWrite start records => Sys2Proof.Machine.execPlanWrite start records s
  | .planRead start count => Sys2Proof.Machine.execPlanRead start count s
  | .start index => Sys2Proof.Machine.execStart index s
  | .stop => Sys2Proof.Machine.execStop s
  | .pause => Sys2Proof.Machine.execPause s
  | .continueRun => Sys2Proof.Machine.execContinueRun s
  | .status => Sys2Proof.Machine.execStatus s
  | .peers => Sys2Proof.Machine.execPeers s
  | .photos => Sys2Proof.Machine.execPhotos s
  | .reset levels => Sys2Proof.Machine.execReset levels s
  | .siteByteReceived byte stopBitOk => Sys2Proof.Machine.execSiteByteReceived byte stopBitOk s
  | .laneByteReceived byte => Sys2Proof.Machine.execLaneByteReceived byte s
  | .powerLoss => Sys2Proof.Machine.execPowerLoss s

end Sys2Proof.Machine
end

