-- ==== Sys2Proof/Machine/Step.lean ====
section
/-! DEFINITION. The step: the command at the front of the queue, or a tick of local time where no command waits, and the
placing of a table word's command. -/

namespace Sys2Proof.Machine

/-- With no command waiting, a part that has supply counts one tick of local time (R20); nothing else happens, since each
effect of a timer is a row of the table. Log entry 3, DESIGN CHOICE. -/
def State.idle (s : State) : State := if s.powered then s.tick else s

/-- One step: the front command of the queue on the part with the rest of the queue; with none, a tick. -/
def step (s : State) : Host.Outcome State Fault Refusal :=
  match s.pending with
  | [] => .next s.idle
  | i :: rest => exec i (s.withPending rest)

/-- The state with the command that a table word spells put at the front of its queue; unchanged where it spells none. -/
def State.withFetchWord (s : State) (nbits w : Nat) : State :=
  match Sys2Proof.decodeTableWord nbits w with
  | some i => s.withPending (i :: s.pending)
  | none => s

end Sys2Proof.Machine
end

