-- ==== Sys2Proof/Safety.lean ====
section
/-! DEFINITION. What the claims say of a state: the bounds of the report stream (R174, R181), of the shot path (R41), of local
time (R20), of the catalogue (R89) and of the peer table (R138, R143, R154), the conditions under which FIRE may be pulsed
(R29), the byte layout of a record (R210), and what a photograph or the end of a run leaves. -/

namespace Sys2Proof.Machine

/-! ## Report stream -/

/-- The record is a POINT. -/
def Record.isPoint : Record → Bool
  | .point _ => true
  | _ => false

/-- How many POINT records the queue holds. -/
def Rps.points (q : Rps) : Nat := q.queue.countP Record.isPoint

/-- The set holds at most one entry per kind, in priority order, each with a count from 1 to 255 (R181). -/
def eventsInForm (es : List PendingEvent) : Prop :=
  es.Pairwise (fun x y => x.event.kind < y.event.kind) ∧ ∀ e ∈ es, 1 ≤ e.count ∧ e.count ≤ 255

/-- The report stream keeps its bounds: never more than 2,048 records, never more than 1,984 POINT records (R174), and the
pending event set in form (R181). -/
def Rps.Sound (q : Rps) : Prop := q.queue.length ≤ queueCapacity ∧ q.points ≤ pointLimit ∧ eventsInForm q.events

/-- The report stream keeps its bounds, and the walker's waiting record is no POINT, so that it takes a non-point entry when
it enters (R105, R176). -/
def State.ReportSound (s : State) : Prop := s.rps.Sound ∧ ∀ r, s.pwk.outgoing = some r → r.isPoint = false

/-- The report stream takes k more records with no event of its own: nothing is pending, there is room, and no entry brings
the occupancy to the thin threshold in NORMAL (R176, R179). -/
def State.FreeReport (k : Nat) (s : State) : Prop :=
  s.rps.events = [] ∧ s.rps.queue.length + k ≤ queueCapacity ∧
    (s.rps.thinning = true ∨ s.rps.queue.length + k < s.cmu.settings.thinThreshold)

/-- The report stream with one more record at its tail and nothing else changed; in an empty queue it is presented from its
first word (R174, R185). -/
def Rps.plus (r : Record) (q : Rps) : Rps :=
  { q with queue := q.queue ++ [r], port := if q.queue.isEmpty then 0 else q.port }

/-- The report stream after one raise that finds it free: the EVENT at its tail, or nothing where the mask drops it (R181 to
R183). -/
def Rps.plusEvent (c : Settings) (now : Nat) (e : Event) (q : Rps) : Rps :=
  if c.masks e.kind then q else q.plus (.event ⟨e, 1, now⟩)

/-- A command answered: its frame has ended, its REPLY stands at the tail of the queue, and READY is high (R190, R192). -/
def State.answered (r : Reply) (s : State) : State :=
  (s.withCmu { s.cmu with receiver := none, laneGap := none, ready := true, reply := none }).withRps (s.rps.plus (.reply r))

/-- The part has supply and the lane takes the frame of a command (R190). -/
def State.Takes (i : Instr) (s : State) : Prop := s.powered = true ∧ s.takesFrame (encodeFrame i) = true

/-- Commands one after another, until one gives no next state. -/
def execAll : List Instr → State → Host.Outcome State Fault Refusal
  | [], s => .next s
  | i :: rest, s =>
    match exec i s with
    | .next t => execAll rest t
    | .fault f => .fault f
    | .refused r => .refused r

/-! ## Reset values (R18, R34, R55, R77, R94, R121, R137, R153, R187, R206) -/

/-- One encoder in its reset values, its tables apart (R18). -/
def EncoderState.AtReset (a b index : Bool) (e : EncoderState) : Prop :=
  e.a = a ∧ e.b = b ∧ e.indexLevel = index ∧ e.count = 0 ∧ e.edgeTime = none ∧ e.interval = none ∧ e.edgesSeen = .zero ∧
    e.lastDirection = .forward

/-- ANU, EMT, RGU and PTA in their reset values, the working tables apart. -/
def State.ShotPathAtReset (l : InputLevels) (s : State) : Prop :=
  s.anu.mirror.AtReset l.mirrorA l.mirrorB l.mirrorIndex ∧ s.anu.head.AtReset l.headA l.headB l.headIndex ∧
    s.anu.monitor = .spinup ∧ s.anu.previousIndex = none ∧ s.anu.inRangeRun = 0 ∧ s.anu.absence = none ∧
    s.time = 0 ∧ s.emt = ⟨none, none, none, 0, none, none, none, none⟩ ∧
    s.rgu.openShots = [] ∧ s.rgu.record = none ∧ s.rgu.transfer = [] ∧ s.rgu.effectiveScale = s.rgu.range.scale ∧
    s.pta = ⟨none, none, none, none⟩

/-- PHC and PWK in their reset values, the camera geometry apart: the effective mask empty, the request not sent, the
exposure record cleared with every trigger low, no slew, no head command, no timer. -/
def State.WalkAtReset (l : InputLevels) (s : State) : Prop :=
  s.phc = {
    cameras := s.phc.cameras, sequence := .idle, effectiveMask := 0, ownQuiet := false, requestW := 0, requestSent := false
    expected := [], granted := [], timer := none
    exposure := ⟨none, none, [], .replicate 4 ⟨false, 0, false⟩⟩
    catalogue := [], nextNumber := some 1, outgoing := [], owed := none, heldRequest := none } ∧
  s.pwk = {
    plan := .replicate 64 .planEnd, state := .idle, armed := false, recordIndex := 0, segment := none, saved := none
    counters := .replicate 64 none, lineCounter := 1, attemptNumber := 1, attempt := none
    slew := ⟨none, none, false, none⟩, headCommand := none, inPosition := l.inPosition, attemptLimit := none
    pausePending := false, ownHold := none, outgoing := none, deferred := none }

/-- SLC, PRU, RPS and CMU in their reset values. -/
def State.LineAtReset (l : InputLevels) (s : State) : Prop :=
  s.slc = {
    membership := .offline, pendingHold := false, pendingQuiet := false, pendingBeacon := false, tx := .idle, backoff := 0
    access := none, jam := none, jamReported := false, generator := none, beaconTimer := none, leaveTimer := none
    rejoin := false, frame := none, carrierSense := l.carrierSense, assembler := .hunt false, byteGap := none
    counters := ⟨0, 0, 0, 0, 0⟩ } ∧
  s.pru = ⟨.replicate 15 none, none⟩ ∧ s.rps.thinning = false ∧ s.rps.events = [] ∧ s.rps.port = 0 ∧
    s.cmu.device = .unconfigured ∧ s.cmu.settings = .default ∧ s.cmu.receiver = none ∧ s.cmu.laneGap = none ∧
    s.cmu.reply = none ∧ s.cmu.laneDiscards = 0 ∧ s.cst.write = none

/-- The part right after a reset that found these levels. -/
def State.AtReset (l : InputLevels) (s : State) : Prop :=
  s.powered = true ∧ s.ShotPathAtReset l ∧ s.WalkAtReset l ∧ s.LineAtReset l

/-- The rows whose check fails, in row order (R200). -/
def State.failedRows (s : State) : List Nat := (List.range 8).filter fun row => !(s.cst.row row).passes row

/-- The records a reset leaves in the queue (R187, R204). -/
def State.resetRecords (cause : ResetCause) (row : Option Nat) (s : State) : List Record :=
  (match s.failedRows.getLast? with
    | some n => [.event ⟨.calRowBad n .load, s.failedRows.length, 0⟩]
    | none => []) ++ [.event ⟨.resetCause cause row, 1, 0⟩]

/-! ## Site line and peer table -/

/-- A peer's two timers lie within their limits: its quiet window at most 500 ms ahead (R154), its age timer at most 300 ms
(R141). -/
def Peer.Bounded (now : Nat) (p : Peer) : Prop :=
  (∀ t, p.window = some t → t ≤ now + ticksOfMs 500) ∧ p.age ≤ now + ageTicks

/-- The peer table keeps its bounds at a time. -/
def Pru.Bounded (now : Nat) (x : Pru) : Prop := ∀ n p, x.peer n = some p → p.Bounded now

/-- Local time lies within its 48 bits (R20). -/
def State.TimeSound (s : State) : Prop := s.time ≤ timeLimit

/-! ## Shot path and photographs -/

/-- The open-shot list holds at most two shots between fires (R41). -/
def Rgu.Sound (x : Rgu) : Prop := x.openShots.length ≤ 2

/-- The catalogue holds at most 64 entries (R89). -/
def Phc.Sound (x : Phc) : Prop := x.catalogue.length ≤ 64

/-! ## The firing gate (R29) -/

/-- The scheduled instant that the part takes now. -/
def State.instantDue (s : State) : Bool := s.emt.schedule.any fun i => decide (i.next ≤ s.time)

/-- Every condition under which FIRE may be pulsed holds (R29). -/
def State.gateOpen (s : State) : Prop :=
  s.cmu.device = .running ∧ s.slc.membership = .live ∧ s.anu.monitor = .ok ∧ s.pwk.state = .line ∧
  s.phc.ownQuiet = false ∧ s.pru.quietClosed = false ∧ holdStanding s.cmu.settings s.pru = false ∧
  ∃ ctx, s.emt.context = some ctx ∧ ctx.mFrom ≤ s.angle .mirror ∧ s.angle .mirror ≤ ctx.mTo ∧
    inBlindZone s.cmu.settings.blindHalfWidth (s.angle .mirror) = false ∧ ctx.candidates % ctx.divisor = 0

/-! ## Records on the report port (R185, R210) -/

/-- A record's bytes: its kind code and its word count in the header, its length, and the unsigned field of each (offset,
width, value). -/
def Record.HasLayout (r : Record) (kind length : Nat) (fields : List (Nat × Nat × Nat)) : Prop :=
  r.bytes.length = length ∧ field r.bytes 0 2 = (kind + 16 * ((length + 1) / 2)) % 65536 ∧
    ∀ f ∈ fields, field r.bytes f.1 f.2.1 = f.2.2 % 256 ^ f.2.1

/-! ## Echoes, photographs and the end of a run -/

/-- The returns of echoes: t_c = ToF − Z − walk; none for t_c ≤ 0; the range floor((t_c × K_eff + 32,768) / 65,536), kept
within the range gate, in order of range, those of equal range in echo order (R50, R51, R53, R54). -/
def Rgu.Returns (c : Settings) (x : Rgu) (es : List Echo) (rs : List Return) : Prop :=
  rs.Pairwise (fun a b => a.range ≤ b.range) ∧
  ∀ r : Nat, rs.filter (fun a => a.range == r) =
    (es.filterMap fun e =>
      let tc := (e.tof : Int) - x.range.zero - walkOf x.walk e.amplitude
      let range := (tc.toNat * x.effectiveScale + 32768) / 65536
      if 0 < tc ∧ c.minRange ≤ range ∧ range ≤ c.maxRange then some (Return.mk range e.amplitude) else none).filter
      (fun a => a.range == r)

/-- A shot closed as missing, as RGU hands it to PTA (R45). -/
def Shot.missed (sh : Shot) : ClosedShot := ⟨sh, true, false, []⟩

/-- PTA's context once a missing shot of its attempt has been accepted: the first dirty cause stands (R60). -/
def PointContext.missed (shot : Nat) (q : PointContext) : PointContext :=
  { q with dirty := match q.dirty with | some d => some d | none => some ⟨.missing, shot⟩ }

/-- The effective mask of a walker request: the cameras of its mask that are present (R80). -/
def Phc.Effective (x : Phc) (mask m : CameraSet) : Prop :=
  ∀ n, n < 4 → m.getLsbD n = (mask.getLsbD n && (x.camera n).present)

/-- PHC in SETTLE for an effective mask: own-photo quiet, and the longest settle of the mask on the timer (R81). -/
def State.settling (m : CameraSet) (s : State) : Phc :=
  { s.phc with
    sequence := .settle
    effectiveMask := m
    ownQuiet := true
    timer := some (s.time + 100000 * longest m s.cmu.settings.settle) }

/-- PHC as it enters EXPOSE with an ungranted list: the triggers of the effective mask high, the longest exposure on the timer,
no expected set kept (R84, R86). -/
def State.exposing (ungranted : List Nat) (s : State) : Phc :=
  { s.phc with
    sequence := .expose
    expected := []
    granted := []
    timer := some (s.time + 100 * longest s.phc.effectiveMask s.cmu.settings.exposure)
    exposure := ⟨some s.time, some (s.angle .head), ungranted, Vector.ofFn fun n : Fin 4 =>
      if s.phc.effectiveMask.getLsbD n then ⟨true, s.cmu.settings.exposure[n], false⟩ else ⟨false, 0, false⟩⟩ }

/-- The entries of an aborted sequence, numbered from k (R90): for each camera of the effective mask, in EXPOSE with the
values recorded and the time its trigger has been high up to its exposure, before it with the values of the abort and length
0. -/
def State.abortedEntries (k : Nat) (s : State) : List Photo :=
  (camerasOf s.phc.effectiveMask).zipIdx.map fun ci =>
    let x := s.phc.exposure.cameras[ci.1]?.getD ⟨false, 0, false⟩
    match s.phc.sequence with
    | .expose =>
      ⟨k + ci.2, ci.1, (s.phc.exposure.headAzimuth.getD 0 + (s.phc.camera ci.1).azOffset) % 2 ^ 20,
        (s.phc.camera ci.1).elevation, s.phc.exposure.startTime.getD 0,
        min ((s.time - s.phc.exposure.startTime.getD 0) / 100) x.length, s.phc.exposure.ungranted, x.peerLit, true⟩
    | q =>
      ⟨k + ci.2, ci.1, (s.angle .head + (s.phc.camera ci.1).azOffset) % 2 ^ 20, (s.phc.camera ci.1).elevation, s.time, 0,
        if q = .grantWait then s.phc.expected.filter fun n => !s.phc.granted.contains n else [], false, true⟩

/-- PHC can be aborted with its records entering at once: nothing waits, four photo numbers are left, and a sequence that is
not IDLE is before its release (R89, R90). -/
def Phc.Abortable (k : Nat) (x : Phc) : Prop :=
  x.outgoing = [] ∧ x.nextNumber = some k ∧ k + 4 ≤ 4294967295 ∧ x.catalogue.length ≤ 64 ∧
    (x.sequence = .expose → x.ownQuiet = true ∧ x.exposure.startTime.isSome = true)

/-- PHC after an end of run that made these entries from number k: unchanged in IDLE, else aborted (R84, R90). -/
def Phc.EndedBy (x : Phc) (k : Nat) (made : List Photo) (y : Phc) : Prop :=
  if x.sequence = .idle then y = x ∧ made = []
  else
    y = { x with
      sequence := .idle, ownQuiet := false, requestW := 0, expected := [], granted := [], timer := none, owed := none
      heldRequest := none, exposure := y.exposure, nextNumber := some (k + made.length)
      catalogue := (x.catalogue ++ made).drop ((x.catalogue ++ made).length - 64) } ∧
    ∀ c ∈ y.exposure.cameras, c.trigger = false

/-- The record of the attempt that an end of run abandons, if one is open or ending (R119): its fired count is the one EMT
keeps for the close notice, or the one recorded at the ending index (R37, R109). -/
def State.StopRecord (reason : AbandonReason) (s : State) (record : List Record) : Prop :=
  match s.pwk.attempt with
  | none => record = []
  | some a => ∃ n, record = [.lineAbandoned a.line a.attempt a.headAzimuth reason n] ∧
    (a.ending = true → a.fired = some n) ∧
    (a.ending = false → a.fired = none ∧ ∃ ctx, s.emt.context = some ctx ∧ n = ctx.fired)

end Sys2Proof.Machine
end

