-- ==== Sys2Proof/Certificates/Slice0/Obligations.lean ====
section
/-! DEFINITION. The statements for the provers: what the numbered rules of spec/ say of the commands and of the machine, as
propositions over the model. A docstring names the rules, and the log entry where a clause is the model's choice. -/

open Sys2Proof Sys2Proof.Machine

/-- A step takes the front command and runs it on the part with the rest of the queue. -/
def Obligations.StepRunsFrontCommand : Prop :=
  ∀ (s : State) (c : Instr) (rest : List Instr), s.pending = c :: rest → step s = exec c (s.withPending rest)

/-- The tick and the limit of local time (R20; log entries 3, DESIGN CHOICE, and 29). -/
def Obligations.LocalTimeCounts : Prop :=
  (∀ s : State, s.pending = [] →
     (s.powered = false → step s = .next s) ∧
     (s.powered = true → s.time < 2 ^ 48 - 1 → step s = .next (s.withTime (s.time + 1))) ∧
     (s.powered = true → s.time = 2 ^ 48 - 1 → step s = .next s)) ∧
  (∀ s : State, s.powered = true →
     (2 ^ 48 - 2 ≤ s.time → exec .localTimeLimit s = .next (s.withTime (2 ^ 48 - 1))) ∧
     (s.time < 2 ^ 48 - 2 → exec .localTimeLimit s = .next s))

/-- Each of the three resets leaves the reset values, keeps the store rows and records its cause (R18, R34, R55, R77, R94,
R121, R137, R153, R187, R204 to R206). That carrier sense and in-position stand at the levels the reset finds is the model's
choice: log entry 2; that the backoff last drawn is 0 is its choice too: log entry 34. -/
def Obligations.ResetValues : Prop :=
  ∀ (levels : InputLevels) (s : State),
    (∃ t, exec (.powerOn levels) s = .next t ∧ t.AtReset levels ∧ t.cmu.ready = true ∧ t.cst.rows = s.cst.rows ∧
      t.cst.cause = .power ∧ t.cst.interruptedRow = none ∧ t.pending = s.pending) ∧
    (s.powered = true → ∃ t, exec (.resetLine levels) s = .next t ∧ t.AtReset levels ∧ t.cmu.ready = true ∧
      t.cst.rows = s.cst.rows ∧ t.cst.cause = .line ∧ t.cst.interruptedRow = s.cst.write.map (·.row) ∧
      t.pending = s.pending) ∧
    (s.Takes (.reset levels) → ∃ t, exec (.reset levels) s = .next t ∧ t.AtReset levels ∧ t.cmu.ready = true ∧
      t.cst.rows = s.cst.rows ∧ t.cst.cause = .command ∧ t.cst.interruptedRow = s.cst.write.map (·.row) ∧
      t.pending = s.pending)

/-- What each of the three resets leaves in the report queue, and the load of the rows (R187, R200, R204 to R206). The bytes in
which a row passes are the model's layout, log entry 25; the default of a camera row rests on log entry 9. -/
def Obligations.ResetLoadsAndReports : Prop :=
  ∀ (levels : InputLevels) (s : State),
    let loaded : State → Prop := fun t =>
      (∀ row, row < 8 → t.cst.source row = (if (s.cst.row row).passes row then .store else .default) ∧
        t.cst.rowState row = (if (s.cst.row row).passes row then .good else .bad)) ∧
      t.rgu.range = rangeTableOf (tableValues 0 ((s.cst.row 0).loaded 0)) ∧
      t.rgu.walk = walkTableOf (tableValues 1 ((s.cst.row 1).loaded 1)) ∧
      t.anu.mirror.correction = correctionOf (tableValues 2 ((s.cst.row 2).loaded 2)) ∧
      t.anu.head.correction = correctionOf (tableValues 3 ((s.cst.row 3).loaded 3)) ∧
      ∀ n, n < 4 → t.phc.camera n = cameraOf (tableValues (4 + n) ((s.cst.row (4 + n)).loaded (4 + n)))
    (∃ t, exec (.powerOn levels) s = .next t ∧ t.rps.queue = s.resetRecords .power none ∧ loaded t) ∧
    (s.powered = true → ∃ t, exec (.resetLine levels) s = .next t ∧
      t.rps.queue = s.resetRecords .line (s.cst.write.map (·.row)) ∧ loaded t) ∧
    (s.Takes (.reset levels) → ∃ t, exec (.reset levels) s = .next t ∧
      t.rps.queue = s.resetRecords .command (s.cst.write.map (·.row)) ++ [.reply ⟨15, .ok, 0, .nothing⟩] ∧ loaded t)

/-- POWER_LOSS, and the commands of a part without supply (R204; log entry 24). -/
def Obligations.PowerLossStopsPart : Prop :=
  (∀ s : State, s.powered = true → ∃ t, exec .powerLoss s = .next t ∧ t.powered = false ∧ t.cst.rows = s.cst.rows ∧
    t.pending = s.pending ∧ t.cmu.ready = false ∧ t.rps.valid = false ∧ t.rps.attn = false ∧ t.emt.fire = none ∧
    t.emt.emit = none ∧ t.slc.frame = none ∧ t.pru.entries = [] ∧ t.cst.write = none) ∧
  ∀ (s : State) (i : Instr), s.powered = false → (∀ levels, i ≠ .powerOn levels) → exec i s = .next s

/-- A quadrature step and the edge history (section 1.1: R2, R3), with its frame. That a pair is accepted at the earliest 4 ticks
after the last one, and at any time once local time is held, and that the time of the last pair is kept, is the model's filter:
log entry 13, DESIGN CHOICE. -/
def Obligations.QuadratureStep : Prop :=
  ∀ (s : State) (enc : Encoder) (a b : Bool), s.powered = true →
    ((a ≠ (s.anu.encoder enc).a ∧ b = (s.anu.encoder enc).b) ∨ (a = (s.anu.encoder enc).a ∧ b ≠ (s.anu.encoder enc).b)) →
    (∀ t0, (s.anu.encoder enc).acceptTime = some t0 → t0 + 4 ≤ s.time ∨ s.time = 2 ^ 48 - 1) →
    exec (.encoderEdge enc a b) s = .next (s.withAnu (s.anu.setEncoder enc
      { s.anu.encoder enc with
        a := a
        b := b
        count :=
          if ((s.anu.encoder enc).a, (s.anu.encoder enc).b, a, b) ∈ [(false, false, true, false), (true, false, true, true),
              (true, true, false, true), (false, true, false, false)] then
            ((s.anu.encoder enc).count + 1) % 2 ^ s.cmu.settings.exponent enc
          else ((s.anu.encoder enc).count + 2 ^ s.cmu.settings.exponent enc - 1) % 2 ^ s.cmu.settings.exponent enc
        lastDirection :=
          if ((s.anu.encoder enc).a, (s.anu.encoder enc).b, a, b) ∈ [(false, false, true, false), (true, false, true, true),
              (true, true, false, true), (false, true, false, false)] then .forward
          else .reverse
        interval :=
          match (s.anu.encoder enc).edgeTime with
          | some t => some (s.time - t)
          | none => (s.anu.encoder enc).interval
        edgeTime := some s.time
        edgesSeen :=
          match (s.anu.encoder enc).edgesSeen with
          | .zero => .one
          | .one => .twoOrMore
          | .twoOrMore => .twoOrMore
        acceptTime := some s.time }))

/-- ENCODER_EDGE where it is no quadrature step, and ENCODER_INDEX of the head (R1, R4; log entry 13). -/
def Obligations.EdgesAndIndexes : Prop :=
  (∀ (s : State) (enc : Encoder) (a b : Bool), s.powered = true →
     (a ≠ (s.anu.encoder enc).a → b ≠ (s.anu.encoder enc).b →
       (∀ t0, (s.anu.encoder enc).acceptTime = some t0 → t0 + 4 ≤ s.time ∨ s.time = 2 ^ 48 - 1) →
       exec (.encoderEdge enc a b) s = .next (s.withAnu (s.anu.setEncoder enc
         { s.anu.encoder enc with a := a, b := b, edgesSeen := .zero, acceptTime := some s.time }))) ∧
     (a = (s.anu.encoder enc).a → b = (s.anu.encoder enc).b → exec (.encoderEdge enc a b) s = .next s) ∧
     ((∃ t0, (s.anu.encoder enc).acceptTime = some t0 ∧ s.time < t0 + 4 ∧ s.time < 2 ^ 48 - 1) →
       exec (.encoderEdge enc a b) s = .next s)) ∧
  (∀ s : State, s.powered = true →
     (s.anu.head.indexLevel = false →
       exec (.encoderIndex .head true) s = .next (s.withAnu { s.anu with head := { s.anu.head with
         indexLevel := true, count := if s.anu.head.lastDirection = .forward then 0 else s.anu.head.count,
         edgesSeen := .zero } })) ∧
     ∀ (enc : Encoder) (level : Bool), (level = false ∨ (s.anu.encoder enc).indexLevel = true) →
       exec (.encoderIndex enc level) s = .next (s.withAnu (s.anu.setEncoder enc
         { s.anu.encoder enc with indexLevel := level })))

/-- The monitor at a mirror index that the walker does not act on (R4, R14 to R17). -/
def Obligations.MirrorPeriodJudged : Prop :=
  ∀ s : State, s.powered = true → s.anu.mirror.indexLevel = false → s.pwk.state ≠ .lineWait → s.pwk.state ≠ .line →
    s.FreeReport 1 →
    ∃ t, exec (.encoderIndex .mirror true) s = .next t ∧ t = (s.withAnu t.anu).withRps t.rps ∧
      t.anu.head = s.anu.head ∧ t.anu.previousIndex = some s.time ∧
      t.anu.mirror = { s.anu.mirror with
        indexLevel := true, count := if s.anu.mirror.lastDirection = .forward then 0 else s.anu.mirror.count,
        edgesSeen := .zero } ∧
      (s.anu.previousIndex = none → t.anu.monitor = s.anu.monitor ∧ t.anu.inRangeRun = s.anu.inRangeRun ∧
        t.anu.absence = s.anu.absence ∧ t.rps = s.rps) ∧
      ∀ p, s.anu.previousIndex = some p →
        (s.cmu.settings.periodLow * 100 ≤ s.time - p ∧ s.time - p ≤ s.cmu.settings.periodHigh * 100 →
          (s.anu.monitor = .ok → t.anu.monitor = .ok ∧ t.anu.absence = some (s.time + 200 * s.cmu.settings.periodHigh) ∧
            t.anu.inRangeRun = s.anu.inRangeRun ∧ t.rps = s.rps) ∧
          (s.anu.monitor ≠ .ok → s.anu.inRangeRun < 2 → t.anu.monitor = s.anu.monitor ∧
            t.anu.inRangeRun = s.anu.inRangeRun + 1 ∧ t.anu.absence = s.anu.absence ∧ t.rps = s.rps) ∧
          (s.anu.monitor ≠ .ok → 2 ≤ s.anu.inRangeRun → t.anu.monitor = .ok ∧ t.anu.inRangeRun = 0 ∧
            t.anu.absence = some (s.time + 200 * s.cmu.settings.periodHigh) ∧
            t.rps = if s.anu.monitor = .fault ∧ s.cmu.device = .running then
                s.rps.plusEvent s.cmu.settings s.time (.mirrorOk ((s.time - p) / 100)) else s.rps)) ∧
        (s.time - p < s.cmu.settings.periodLow * 100 ∨ s.cmu.settings.periodHigh * 100 < s.time - p →
          t.anu.inRangeRun = 0 ∧
          (s.anu.monitor ≠ .ok → t.anu.monitor = s.anu.monitor ∧ t.anu.absence = s.anu.absence ∧ t.rps = s.rps) ∧
          (s.anu.monitor = .ok → t.anu.monitor = .fault ∧ t.anu.absence = none ∧
            t.rps = if s.cmu.device = .running then
                s.rps.plusEvent s.cmu.settings s.time
                  (.mirrorFault (if s.time - p < s.cmu.settings.periodLow * 100 then .short else .long)
                    (some ((s.time - p) / 100))) else s.rps))

/-- ABSENCE_TIMER_EXPIRY, FIRE_PULSE_END and EMIT_EXPIRY (R16, R17, R31, R33, R132). That the rows act at the expiry or later
is the model's choice: log entry 10. -/
def Obligations.ShotPathTimersExpire : Prop :=
  (∀ (s : State) (e : Nat), s.powered = true → s.anu.monitor = .ok → s.anu.absence = some e → e ≤ s.time → s.FreeReport 1 →
     exec .absenceTimerExpiry s = .next ((s.withAnu { s.anu with monitor := .fault, inRangeRun := 0, absence := none }).withRps
       (if s.cmu.device = .running then s.rps.plusEvent s.cmu.settings s.time (.mirrorFault .absent none) else s.rps))) ∧
  (∀ s : State, s.powered = true →
     (∀ p, s.emt.fire = some p → p.fall ≤ s.time → exec .firePulseEnd s = .next (s.withEmt { s.emt with fire := none })) ∧
     (∀ e, s.emt.emit = some e → e ≤ s.time → exec .emitExpiry s = .next
       ((s.withEmt { s.emt with emit := none }).withSlc (s.slc.request s.time .beacon))))

/-- The angle at an instant: the raw angle with its interpolation part (R6), and the correction of the first segment whose
running span sum exceeds the count (R8). With an edge interval of 0 R6 gives the quotient no value: a free one, within the bounds
that R6 states of every interpolation part (log entry 39). -/
def Obligations.AngleAnswered : Prop :=
  ∀ (e : EncoderState) (n now : Nat), n ≤ 20 →
    e.angle n now < 2 ^ 20 ∧
    ∃ i, i < 2 ^ (20 - n) ∧ (e.edgesSeen ≠ .twoOrMore → i = 0) ∧
      (∀ t d, e.edgesSeen = .twoOrMore → e.edgeTime = some t → e.interval = some d → 0 < d →
        i = min (2 ^ (20 - n) * (now - t) / d) (2 ^ (20 - n) - 1)) ∧
      ((e.correction.map (·.span)).sum ≤ e.count → e.angle n now = (e.count * 2 ^ (20 - n) + i) % 2 ^ 20) ∧
      ∀ before g later, e.correction = before ++ g :: later → (before.map (·.span)).sum ≤ e.count →
        e.count < (before.map (·.span)).sum + g.span →
        (e.angle n now : Int) = (((e.count * 2 ^ (20 - n) + i) % 2 ^ 20 : Nat) + g.correction) % 2 ^ 20

/-- The signed wrapped difference (R13). -/
def Obligations.WrappedDifference : Prop :=
  ∀ x y : Nat,
    wrapDiff x y = ((x : Int) - y + 2 ^ 19) % 2 ^ 20 - 2 ^ 19 ∧
    -524288 ≤ wrapDiff x y ∧ wrapDiff x y ≤ 524287 ∧ (∃ k : Int, wrapDiff x y = x - y + k * 2 ^ 20) ∧
    (∀ k : Int, (wrapDiff x y).natAbs ≤ ((x : Int) - y + k * 2 ^ 20).natAbs) ∧
    ((∃ k : Int, (x : Int) - y = 524288 + k * 2 ^ 20) → wrapDiff x y = -524288)

/-- The view direction (R11). -/
def Obligations.ViewDirectionComputed : Prop :=
  ∀ a m : Nat, a < 2 ^ 20 → m < 2 ^ 20 →
    (m ≤ 524288 → viewDirection a m = ⟨a, (m : Int) - 262144⟩) ∧
    (524288 < m → viewDirection a m = ⟨(a + 524288) % 2 ^ 20, 786432 - (m : Int)⟩) ∧
    (viewDirection a m).azimuth < 2 ^ 20 ∧ -262144 ≤ (viewDirection a m).elevation ∧ (viewDirection a m).elevation ≤ 262144

/-- The dither generator (R22). -/
def Obligations.DitherBounds : Prop :=
  (∀ x : Nat, lcg x = (25173 * x + 13849) % 65536) ∧
  ∀ (c : Settings) (x : Nat), x < 65536 →
    ditherOf c.dither x = ((x * (2 * c.dither + 1) / 65536 : Nat) : Int) - c.dither ∧
    -(c.dither : Int) ≤ ditherOf c.dither x ∧ ditherOf c.dither x ≤ c.dither ∧
    (c.dither = 0 → ditherOf c.dither x = 0 ∧ intervalOf c x = c.basePeriod) ∧
    (c.dither ≤ c.basePeriod / 8 →
      (intervalOf c x : Int) = c.basePeriod + ditherOf c.dither x ∧
      c.basePeriod - c.dither ≤ intervalOf c x ∧ intervalOf c x ≤ c.basePeriod + c.dither ∧
      c.basePeriod - c.basePeriod / 8 ≤ intervalOf c x ∧ (c.basePeriod = 100 → 88 ≤ intervalOf c x))

/-- An instant that finds no attempt open (R23, R28). -/
def Obligations.InstantPassesUnfired : Prop :=
  ∀ (s : State) (i : Schedule) (x : Nat), s.powered = true → s.emt.schedule = some i → i.next ≤ s.time →
    s.emt.generator = some x → s.emt.context = none →
    exec .scheduledInstant s = .next (s.withEmt { s.emt with
      generator := some ((25173 * x + 13849) % 65536)
      schedule := some ⟨i.next + intervalOf s.cmu.settings ((25173 * x + 13849) % 65536), i.number + 1⟩ })

/-- A shot fired (R23, R25, R28, R29, R31, R33, R41), and the oldest of three open shots closed as missing (R41, R45, R58,
R60). -/
def Obligations.ShotFired : Prop :=
  ∀ (s : State) (i : Schedule) (ctx : EmitContext) (r : RangeRecord) (x : Nat), s.powered = true →
    s.emt.schedule = some i → i.next ≤ s.time → s.emt.generator = some x → s.gateOpen → s.emt.context = some ctx →
    s.rgu.record = some r → r.line = ctx.line → r.attempt = ctx.attempt →
    let shot : Shot := ⟨s.emt.tagCounter, s.time, ctx.fired, ctx.line, ctx.attempt, s.angle .mirror, s.angle .head⟩
    let fired := (s.withEmt { s.emt with
        generator := some (lcg x)
        schedule := some ⟨i.next + intervalOf s.cmu.settings (lcg x), i.number + 1⟩
        fire := some ⟨s.time + 5, s.emt.tagCounter⟩
        tagCounter := (s.emt.tagCounter + 1) % 256
        context := some { ctx with candidates := ctx.candidates + 1, fired := ctx.fired + 1 }
        emit := some (s.time + 2 * s.cmu.settings.basePeriod) }).withSlc
      (if s.emt.emit = none then s.slc.request s.time .beacon else s.slc)
    (s.rgu.openShots.length ≤ 1 → exec .scheduledInstant s =
      .next (fired.withRgu { s.rgu with openShots := s.rgu.openShots ++ [shot] })) ∧
    ∀ oldest second q, s.rgu.openShots = [oldest, second] → s.pta.context = some q → oldest.line = q.line →
      oldest.attempt = q.attempt → s.pta.held = none → exec .scheduledInstant s =
      .next ((fired.withRgu { s.rgu with openShots := [second, shot] }).withPta
        { s.pta with held := some oldest.missed, context := some (q.missed oldest.index) })

/-- The firing gate over every command (R29). -/
def Obligations.FireOnlyThroughGate : Prop :=
  ∀ (s t : State) (c : Instr) (p : FirePulse), exec c s = .next t → t.emt.fire = some p → s.emt.fire ≠ some p →
    c = .scheduledInstant ∧ s.powered = true ∧ s.instantDue = true ∧ s.gateOpen

/-- An interruption (R32, R44, R62, R109, R114), with each of the six conditions that can close the gate (R29, R166, R168). -/
def Obligations.InterruptionAbandons : Prop :=
  ∀ (s : State) (i : Schedule) (ctx : EmitContext) (a : AttemptRecord) (g : GateConditions), s.powered = true →
    (g.deviceMembership = true ↔ s.cmu.device ≠ .running ∨ s.slc.membership ≠ .live) →
    (g.mirrorSpeed = true ↔ s.anu.monitor ≠ .ok) → (g.walker = true ↔ s.pwk.state ≠ .line) →
    (g.ownPhoto = true ↔ s.phc.ownQuiet = true) →
    (g.peerQuiet = true ↔ ∃ n p, s.pru.peer n = some p ∧ p.window.isSome = true) →
    (g.peerHold = true ↔ s.cmu.settings.honourHolds = true ∧ ∃ n p, s.pru.peer n = some p ∧ p.hold = true) →
    (g.deviceMembership = true ∨ g.mirrorSpeed = true ∨ g.walker = true ∨ g.ownPhoto = true ∨ g.peerQuiet = true ∨
      g.peerHold = true) →
    s.emt.schedule = some i → i.next ≤ s.time → s.emt.context = some ctx → ctx.reported = false →
    ctx.candidate s.cmu.settings.blindHalfWidth (s.angle .mirror) = true →
    s.pwk.attempt = some a → a.line = ctx.line → a.attempt = ctx.attempt → a.ending = false → a.fired = none →
    a.attempt ≠ 65535 → s.rgu.openShots = [] → s.pta.held = none →
    s.pta.context.all (fun p => p.line == ctx.line && p.attempt == ctx.attempt) = true → s.FreeReport 1 →
    ∃ t, exec .scheduledInstant s = .next t ∧ t.emt.fire = s.emt.fire ∧ t.emt.context = none ∧ t.rgu.record = none ∧
      t.pta.context = none ∧ t.pwk.state = (if s.pwk.pausePending then .paused else .lineWait) ∧
      t.pwk.pausePending = false ∧ t.pwk.attempt = none ∧
      t.pwk.attemptNumber = s.pwk.attemptNumber + 1 ∧ t.pwk.counted = s.pwk.counted ∧ t.pwk.lineCounter = s.pwk.lineCounter ∧
      t.rps = s.rps.plus (.lineAbandoned a.line a.attempt a.headAzimuth (.gate g) ctx.fired) ∧
      t.phc = s.phc ∧ t.slc = s.slc ∧ t.pru = s.pru ∧ t.cmu = s.cmu ∧ t.cst = s.cst ∧ t.anu = s.anu

/-- The walk of an amplitude (R49). -/
def Obligations.WalkInterpolated : Prop :=
  ∀ (w : Vector Int 16) (a : Nat), a < 4096 → (∀ x ∈ w, -2048 ≤ x ∧ x ≤ 2047) →
    (a / 256 = 15 → walkOf w a = w[15]) ∧
    (∀ (j : Nat) (h : j < 15), a / 256 = j →
      walkOf w a = w[j] + (((w[j + 1] - w[j]) * ((a % 256 : Nat) : Int)) / 256) ∧ (a % 256 = 0 → walkOf w a = w[j])) ∧
    -2048 ≤ walkOf w a ∧ walkOf w a ≤ 2047

/-- A set that raises no proximity hit (R52) closes an open shot (R38 to R42, R50, R51, R53, R54, R219): held, judged with the
shot before it, and an older open shot closed as missing (R45, R58 to R60). -/
def Obligations.EchoesBecomeShot : Prop :=
  ∀ (s : State) (e : EchoSet) (older : List Shot) (sh : Shot) (younger : List Shot) (q : PointContext), s.powered = true →
    s.cmu.device = .running → e.tag < 256 → e.count = e.echoes.length → e.count ≤ 6 →
    (∀ x ∈ e.echoes, x.tof < 2 ^ 20 ∧ x.amplitude < 4096) → (e.echoes.map (·.tof)).Pairwise (· < ·) →
    s.rgu.openShots = older ++ sh :: younger → (∀ x ∈ older, x.tag ≠ e.tag) → sh.tag = e.tag →
    (∀ w, s.rgu.record = some w → w.line = sh.line → w.attempt = sh.attempt → w.watch = true → w.hitRaised = false →
      ∀ x ∈ e.echoes.take 4, ∀ tc : Int, tc = (x.tof : Int) - s.rgu.range.zero - walkOf s.rgu.walk x.amplitude → 0 < tc →
        s.cmu.settings.proximityLimit ≤ (tc.toNat * s.rgu.effectiveScale + 32768) / 65536) →
    s.pta.context = some q → sh.line = q.line → sh.attempt = q.attempt →
    ∃ rs : List Return, s.rgu.Returns s.cmu.settings (e.echoes.take 4) rs ∧
      let closed : ClosedShot := ⟨sh, false, decide (5 ≤ e.count), rs⟩
      let taken := s.withRgu { s.rgu with openShots := younger, transfer := [] }
      (older = [] → s.pta.held = none → exec (.echoSet ⟨true, e.bytes⟩) s =
        .next (taken.withPta { s.pta with held := some closed })) ∧
      (older = [] → ∀ h t, s.pta.held = some h → t = taken.judgeShot s.pta.predecessor h (some closed) →
        exec (.echoSet ⟨true, e.bytes⟩) s = .next (t.withPta { t.pta with predecessor := some h, held := some closed })) ∧
      ∀ x, older = [x] → x.line = q.line → x.attempt = q.attempt → s.pta.held = none → exec (.echoSet ⟨true, e.bytes⟩) s =
        .next (taken.withPta { s.pta with
          predecessor := some x.missed, held := some closed, context := some (q.missed x.index) })

/-- Sets that close no shot (R38, R39, R43), and transfers in parts (R38, R219; log entry 26). -/
def Obligations.EchoSetsTurnedAway : Prop :=
  (∀ (s : State) (bs : List Byte) (e : EchoSet), s.powered = true → parseTransfer bs = some (e, []) → s.FreeReport 1 →
    let taken := s.withRgu { s.rgu with transfer := [] }
    (s.cmu.device ≠ .running → exec (.echoSet ⟨true, bs⟩) s = .next taken) ∧
    (s.cmu.device = .running →
      (e.count = 7 → exec (.echoSet ⟨true, bs⟩) s =
        .next (taken.withRps (s.rps.plusEvent s.cmu.settings s.time (.echoSlip .format e.tag)))) ∧
      (e.count ≠ 7 → ¬ (e.echoes.map (·.tof)).Pairwise (· < ·) → exec (.echoSet ⟨true, bs⟩) s =
        .next (taken.withRps (s.rps.plusEvent s.cmu.settings s.time (.echoSlip .order e.tag)))) ∧
      (e.count ≠ 7 → (e.echoes.map (·.tof)).Pairwise (· < ·) → (∀ sh ∈ s.rgu.openShots, sh.tag ≠ e.tag) →
        exec (.echoSet ⟨true, bs⟩) s =
          .next (taken.withRps (s.rps.plusEvent s.cmu.settings s.time (.echoSlip .unmatched e.tag)))))) ∧
  ∀ (s : State) (first rest : List Byte), s.powered = true →
    (s.rgu.transfer = [] → exec (.echoSet ⟨false, rest⟩) s = .next s) ∧
    (parseTransfer first = none → exec (.echoSet ⟨true, first⟩) s = .next (s.withRgu { s.rgu with transfer := first })) ∧
    (parseTransfer first = none → first ≠ [] → ∀ t, exec (.echoSet ⟨true, first⟩) s = .next t →
      exec (.echoSet ⟨false, rest⟩) t = exec (.echoSet ⟨true, first ++ rest⟩) s)

/-- Continuity (R66 to R68). -/
def Obligations.ContinuityConfirms : Prop :=
  ∀ (c : Settings) (left right : Option ClosedShot) (r : Nat),
    let agrees : ClosedShot → Prop := fun n => ∃ x ∈ n.returns, ((r : Int) - x.range).natAbs ≤ c.tolerance
    (c.continuity = .off → confirmed c left right r = true) ∧
    (c.continuity = .oneSide →
      (confirmed c left right r = true ↔ (∃ n, left = some n ∧ agrees n) ∨ ∃ n, right = some n ∧ agrees n)) ∧
    (c.continuity = .both → (confirmed c left right r = true ↔
      ¬ (left = none ∧ right = none) ∧ (∀ n, left = some n → agrees n) ∧ ∀ n, right = some n → agrees n)) ∧
    (c.continuity ≠ .off → left = none → right = none → confirmed c left right r = false) ∧
    (c.continuity = .both → ∀ n, n.returns = [] → left = some n ∨ right = some n → confirmed c left right r = false)

/-- Return selection (R70). -/
def Obligations.ReturnSelected : Prop :=
  ∀ rs : List PointReturn, rs ≠ [] →
    (∃ pre r post, rs = pre ++ r :: post ∧ select .first rs = [r] ∧ (∀ x ∈ pre, r.range < x.range) ∧
      ∀ x ∈ post, r.range ≤ x.range) ∧
    (∃ pre r post, rs = pre ++ r :: post ∧ select .last rs = [r] ∧ (∀ x ∈ pre, x.range < r.range) ∧
      ∀ x ∈ post, x.range ≤ r.range) ∧
    (∃ pre r post, rs = pre ++ r :: post ∧ select .strongest rs = [r] ∧
      (∀ x ∈ pre, x.amplitude < r.amplitude ∨ (x.amplitude = r.amplitude ∧ r.range < x.range)) ∧
      ∀ x ∈ post, x.amplitude < r.amplitude ∨ (x.amplitude = r.amplitude ∧ r.range ≤ x.range)) ∧
    select .all rs = rs

/-- The colour lookup (R91 to R93). -/
def Obligations.ColourLooksUp : Prop :=
  ∀ (x : Phc) (v : ViewDirection),
    let holds : Photo → Prop := fun p => p.aborted = false ∧ (x.camera p.camera).present = true ∧
      (wrapDiff v.azimuth p.azimuth).natAbs ≤ (x.camera p.camera).halfWidthAz ∧
      (v.elevation - p.elevation).natAbs ≤ (x.camera p.camera).halfWidthEl
    ((∀ p ∈ x.catalogue, ¬ holds p) → x.lookup v = none) ∧
    ∀ older p newer, x.catalogue = older ++ p :: newer → holds p → (∀ q ∈ newer, ¬ holds q) →
      1 ≤ (x.camera p.camera).width → 1 ≤ (x.camera p.camera).height →
      ∃ column row, x.lookup v = some ⟨p.number, column, row⟩ ∧
        column < (x.camera p.camera).width ∧ row < (x.camera p.camera).height ∧
        (column : Int) = max 0 (min (((x.camera p.camera).width : Int) - 1) ((x.camera p.camera).centreCol +
          roundDiv (wrapDiff v.azimuth p.azimuth * 256) (x.camera p.camera).pitchAz)) ∧
        (row : Int) = max 0 (min (((x.camera p.camera).height : Int) - 1) ((x.camera p.camera).centreRow -
          roundDiv ((v.elevation - p.elevation) * 256) (x.camera p.camera).pitchEl))

/-- PTA's judgement of its held shot: the unconfirmed action (R69), the point and its offer (R71 to R75, R175, R178), and the
layout of the POINT (R211). -/
def Obligations.PointOffered : Prop :=
  (∀ (s : State) (ctx : PointContext) (left right : Option ClosedShot) (h : ClosedShot), s.pta.context = some ctx →
    let kept := select ctx.mode (h.returns.filterMap fun r =>
      if confirmed s.cmu.settings left right r.range = true then some ⟨r.range, r.amplitude, false⟩
      else if s.cmu.settings.unconfirmed = .drop then none
      else some ⟨r.range, r.amplitude, true⟩)
    let thin := s.rps.thinning
    let point : PointRecord := ⟨h.shot.line, h.shot.attempt, h.shot.index, h.shot.fireTime, h.shot.mirrorAngle,
      h.shot.headAzimuth, thin, h.moreEchoes, left.any (·.missing) || right.any (·.missing), kept,
      s.phc.lookup (viewDirection h.shot.headAzimuth h.shot.mirrorAngle)⟩
    (kept = [] → s.judgeShot left h right = s) ∧
    (kept ≠ [] → thin = true → h.shot.index % 2 = 1 →
      s.judgeShot left h right = s.withPta { s.pta with context := some { ctx with thinned := true } }) ∧
    (kept ≠ [] → (thin = true → h.shot.index % 2 = 0) →
      (s.rps.queue.length < 1984 → s.FreeReport 1 → s.judgeShot left h right =
        (s.withPta { s.pta with context := some { ctx with
          thinned := ctx.thinned || thin, offered := ctx.offered + 1 } }).withRps (s.rps.plus (.point point))) ∧
      (1984 ≤ s.rps.queue.length → s.judgeShot left h right = s.withPta { s.pta with context := some { ctx with
          thinned := ctx.thinned || thin
          offered := ctx.offered + 1
          dirty := match ctx.dirty with
            | some d => some d
            | none => some ⟨.refused, h.shot.index⟩ } }))) ∧
  ∀ p : PointRecord,
    (Record.point p).HasLayout 1 (26 + 6 * p.returns.length + if p.colour.isSome then 8 else 0)
      [(2, 4, p.line), (6, 2, p.attempt), (8, 4, p.index), (12, 6, p.fireTime), (18, 3, p.mirrorAngle), (21, 3, p.headAzimuth),
       (24, 1, p.thinned.toNat + 2 * p.moreEchoes.toNat + 4 * p.missing.toNat + 8 * p.colour.isSome.toNat),
       (25, 1, p.returns.length)] ∧
    (∀ (i : Nat) (h : i < p.returns.length),
      field (Record.point p).bytes (26 + 6 * i) 4 = p.returns[i].range % 2 ^ 32 ∧
      field (Record.point p).bytes (30 + 6 * i) 2 =
        p.returns[i].amplitude % 4096 + if p.returns[i].isolated then 32768 else 0) ∧
    ∀ c, p.colour = some c →
      field (Record.point p).bytes (26 + 6 * p.returns.length) 4 = c.photo % 2 ^ 32 ∧
      field (Record.point p).bytes (30 + 6 * p.returns.length) 2 = c.column % 65536 ∧
      field (Record.point p).bytes (32 + 6 * p.returns.length) 2 = c.row % 65536

/-- The opening of a line attempt (R26, R44, R57, R104), an index that leaves the monitor not OK in LINE_WAIT (R15, R16, R104),
and the layout of LINE_BEGIN (R212). -/
def Obligations.AttemptOpens : Prop :=
  (∀ (s : State) (g : Segment) (p : Nat), s.powered = true → s.anu.mirror.indexLevel = false → s.anu.monitor = .ok →
    s.anu.previousIndex = some p → s.cmu.settings.periodLow * 100 ≤ s.time - p → s.time - p ≤ s.cmu.settings.periodHigh * 100 →
    s.pwk.state = .lineWait → s.pwk.currentSegment = some g →
    ((s.pwk.inPosition = true ∧ s.slc.membership = .live ∧ s.pru.quietClosed = false ∧
        holdStanding s.cmu.settings s.pru = false ∧ s.pwk.outgoing = none) → s.FreeReport 1 →
      ∃ t, exec (.encoderIndex .mirror true) s = .next t ∧ t.anu.monitor = .ok ∧
        t.pwk = { s.pwk with
          state := .line
          attempt := some ⟨s.pwk.lineCounter, s.pwk.attemptNumber, s.angle .head, s.time, none, false⟩
          attemptLimit := some (s.time + 200 * s.cmu.settings.periodHigh) } ∧
        t.rps = s.rps.plus (.lineBegin s.pwk.lineCounter s.pwk.attemptNumber s.time (s.angle .head)) ∧
        t.emt = { s.emt with
          context := some ⟨s.pwk.lineCounter, s.pwk.attemptNumber, g.mFrom, g.mTo, g.divisor, 0, 0, false⟩ } ∧
        t.rgu = { s.rgu with record := some ⟨s.pwk.lineCounter, s.pwk.attemptNumber, g.watch, false⟩ } ∧
        t.pta = { s.pta with
          predecessor := none, held := none
          context := some ⟨s.pwk.lineCounter, s.pwk.attemptNumber, g.mode, none, 0, false⟩ } ∧
        t.phc = s.phc ∧ t.slc = s.slc ∧ t.pru = s.pru ∧ t.cmu = s.cmu ∧ t.cst = s.cst) ∧
    ((s.pwk.inPosition = false ∨ s.slc.membership ≠ .live ∨ s.pru.quietClosed = true ∨
        holdStanding s.cmu.settings s.pru = true ∨ s.pwk.outgoing.isSome = true ∨ 2048 ≤ s.rps.queue.length) →
      ∃ t, exec (.encoderIndex .mirror true) s = .next t ∧ t = s.withAnu t.anu)) ∧
  (∀ s : State, s.powered = true → s.anu.mirror.indexLevel = false → s.pwk.state = .lineWait → s.FreeReport 1 →
    ((s.anu.monitor ≠ .ok ∧ (s.anu.previousIndex = none ∨ s.anu.inRangeRun < 2)) ∨ ∃ p, s.anu.previousIndex = some p ∧
      (s.time - p < s.cmu.settings.periodLow * 100 ∨ s.cmu.settings.periodHigh * 100 < s.time - p)) →
    ∃ t, exec (.encoderIndex .mirror true) s = .next t ∧ t.anu.monitor ≠ .ok ∧ t = (s.withAnu t.anu).withRps t.rps ∧
      (s.anu.monitor ≠ .ok → t.anu.monitor = s.anu.monitor ∧ t.rps = s.rps) ∧
      ∀ p, s.anu.monitor = .ok → s.anu.previousIndex = some p → t.anu.monitor = .fault ∧
        t.rps = if s.cmu.device = .running then s.rps.plusEvent s.cmu.settings s.time
            (.mirrorFault (if s.time - p < s.cmu.settings.periodLow * 100 then .short else .long) (some ((s.time - p) / 100)))
          else s.rps) ∧
  ∀ line attempt time azimuth : Nat, (Record.lineBegin line attempt time azimuth).HasLayout 2 17
    [(2, 4, line), (6, 2, attempt), (8, 6, time), (14, 3, azimuth)]

/-- The end of an attempt at a mirror index: with the monitor OK (R27, R44, R61, R76, R106), the held shot judged and an open
shot closed as missing (R44, R45, R58 to R60); with a period out of range it is abandoned (R106, R109). -/
def Obligations.AttemptEnds : Prop :=
  ∀ (s : State) (a : AttemptRecord) (ctx : EmitContext) (q : PointContext) (p : Nat), s.powered = true →
    s.anu.mirror.indexLevel = false → s.anu.monitor = .ok → s.anu.previousIndex = some p → s.pwk.state = .line →
    s.pwk.attempt = some a → a.ending = false → s.emt.context = some ctx → s.pta.context = some q → q.line = a.line →
    q.attempt = a.attempt →
    (s.cmu.settings.periodLow * 100 ≤ s.time - p → s.time - p ≤ s.cmu.settings.periodHigh * 100 →
      ∃ t, exec (.encoderIndex .mirror true) s = .next t ∧
        t.pwk = { s.pwk with attempt := some { a with fired := some ctx.fired, ending := true }, attemptLimit := none } ∧
        t.emt = { s.emt with context := none, keptFired := none } ∧ t.rgu = { s.rgu with openShots := [], record := none } ∧
        t.pta.predecessor = none ∧ t.pta.held = none ∧ t.pta.context = none ∧
        (s.rgu.openShots = [] → s.pta.held = none → t.rps = s.rps ∧
          t.pta.report = some ⟨a.line, a.attempt, q.dirty, q.offered, q.thinned⟩) ∧
        (s.rgu.openShots = [] → ∀ h u, s.pta.held = some h → u = s.judgeShot s.pta.predecessor h none → t.rps = u.rps ∧
          t.pta.report = u.pta.context.map fun x => ⟨x.line, x.attempt, x.dirty, x.offered, x.thinned⟩) ∧
        (∀ x, s.rgu.openShots = [x] → x.line = a.line → x.attempt = a.attempt → s.pta.held = none → t.rps = s.rps ∧
          t.pta.report = some ⟨a.line, a.attempt, (q.missed x.index).dirty, q.offered, q.thinned⟩) ∧
        t.phc = s.phc ∧ t.slc = s.slc ∧ t.pru = s.pru ∧ t.cmu = s.cmu ∧ t.cst = s.cst) ∧
    (s.time - p < s.cmu.settings.periodLow * 100 ∨ s.cmu.settings.periodHigh * 100 < s.time - p →
      s.cmu.device = .running → a.fired = none → a.attempt ≠ 65535 → s.rgu.openShots = [] → s.FreeReport 2 →
      ∃ t, exec (.encoderIndex .mirror true) s = .next t ∧ t.anu.monitor = .fault ∧
        t = (((((s.withAnu t.anu).withEmt { s.emt with context := none, keptFired := none }).withRgu
          { s.rgu with record := none }).withPta { s.pta with predecessor := none, held := none, context := none }).withPwk
          { s.pwk with
            state := if s.pwk.pausePending then .paused else .lineWait
            pausePending := false
            attempt := none
            attemptNumber := s.pwk.attemptNumber + 1
            outgoing := none
            attemptLimit := none }).withRps
          ((s.rps.plusEvent s.cmu.settings s.time (.mirrorFault
              (if s.time - p < s.cmu.settings.periodLow * 100 then .short else .long) (some ((s.time - p) / 100)))).plus
            (.lineAbandoned a.line a.attempt a.headAzimuth .mirror ctx.fired)))

/-- The end of a line (R99, R102, R105, R108, R110, R111), its interleaved photo (R80, R81, R111 to R113), and the layout of
LINE_END (R212). That in-position falls at a head command to another target is the model's: log entry 14. -/
def Obligations.LineEnds : Prop :=
  (∀ (s : State) (r : FinishReport) (a : AttemptRecord) (g : Segment) (c : SegmentContext) (n : Nat), s.powered = true →
    s.pta.report = some r → s.pwk.attempt = some a → a.ending = true → a.line = r.line → a.attempt = r.attempt →
    s.pwk.state = .line → a.fired = some n → s.pwk.segment = some c → s.pwk.record c.record = .segment g →
    (r.dirty.isSome = true → g.retryLimit ≤ c.counted + 1 ∨ a.attempt = 65535) → s.FreeReport 2 →
    ∃ counted, counted = (if r.dirty.isSome then c.counted + 1 else c.counted) ∧
    let next := (((g.azStart : Int) + ((c.lineIndex + 1 : Nat) : Int) * g.step) % 2 ^ 20).toNat
    let ended := (s.withPta { s.pta with report := none }).withRps
      (if r.dirty.isSome then
        (s.rps.plus (.lineEnd a.line a.attempt a.headAzimuth .gap r.thinned counted n r.offered)).plusEvent s.cmu.settings
          s.time (.lineGap a.line counted)
      else s.rps.plus (.lineEnd a.line a.attempt a.headAzimuth .accepted r.thinned counted n r.offered))
    let slewing : Pwk := { s.pwk with
      state := .slewing
      lineCounter := s.pwk.lineCounter + 1
      attemptNumber := 1
      attempt := none
      segment := some { c with lineIndex := c.lineIndex + 1, done := c.done + 1, counted := 0 }
      outgoing := none
      deferred := none
      slew := ⟨some next, some s.time, false, some (s.time + 1000000000)⟩
      inPosition := false
      headCommand := some next }
    ((g.interval = 0 ∨ (c.done + 1) % g.interval ≠ 0) → c.lineIndex + 1 < c.lines →
      (s.pwk.inPosition = false ∨ s.pwk.headCommand ≠ some next) → exec .finishReport s = .next (ended.withPwk slewing)) ∧
    ∀ m, 0 < g.interval → (c.done + 1) % g.interval = 0 → s.phc.sequence = .idle → s.phc.Effective g.mask m →
      (m ≠ 0 → 0 < longest m s.cmu.settings.settle → exec .finishReport s = .next ((ended.withPwk { s.pwk with
        state := .photo
        lineCounter := s.pwk.lineCounter + 1
        attemptNumber := 1
        attempt := none
        segment := some { c with done := c.done + 1, counted := 0 }
        saved := some { c with done := c.done + 1, counted := 0 }
        outgoing := none
        deferred := none }).withPhc (s.settling m))) ∧
      (m = 0 → c.lineIndex + 1 < c.lines → (s.pwk.inPosition = false ∨ s.pwk.headCommand ≠ some next) →
        exec .finishReport s = .next ((ended.withPwk { slewing with saved := none }).withPhc
          { s.phc with effectiveMask := 0 }))) ∧
  ∀ (line attempt azimuth : Nat) (outcome : LineOutcome) (thinned : Bool) (counted fired offered : Nat),
    (Record.lineEnd line attempt azimuth outcome thinned counted fired offered).HasLayout 3 22
      [(2, 4, line), (6, 2, attempt), (8, 3, azimuth), (11, 1, match outcome with | .accepted => 1 | .gap => 2),
       (12, 1, thinned.toNat), (13, 1, counted), (14, 4, fired), (18, 4, offered)]

/-- A dirty attempt and the attempt limit (R107 to R110, R114), the two orders of LINE_ABANDONED and of the point that RGU's
flush brings (R62, R110; log entry 36), and the layout of LINE_ABANDONED (R212). That the row changes nothing before its
expiry is the model's choice: log entry 10. -/
def Obligations.AttemptsAbandoned : Prop :=
  (∀ (s : State) (r : FinishReport) (d : DirtyMark) (a : AttemptRecord) (g : Segment) (c : SegmentContext) (n : Nat),
     s.powered = true → s.pta.report = some r → r.dirty = some d → s.pwk.attempt = some a → a.ending = true →
     a.line = r.line → a.attempt = r.attempt → s.pwk.state = .line → a.fired = some n → s.pwk.segment = some c →
     s.pwk.record c.record = .segment g → c.counted + 1 < g.retryLimit → a.attempt ≠ 65535 → s.FreeReport 1 →
     exec .finishReport s = .next (((s.withPta { s.pta with report := none }).withPwk { s.pwk with
       state := if s.pwk.pausePending then .paused else .lineWait
       pausePending := false
       attempt := none
       attemptNumber := s.pwk.attemptNumber + 1
       outgoing := none
       segment := some { c with counted := c.counted + 1 } }).withRps
       (s.rps.plus (.lineAbandoned a.line a.attempt a.headAzimuth (.dirty d.cause d.shot r.offered) n)))) ∧
  (∀ (s : State) (e : Nat), s.powered = true → s.pwk.attemptLimit = some e →
     (s.time < e → exec .attemptLimitExpiry s = .next s) ∧
     ∀ (a : AttemptRecord) (ctx : EmitContext) (q : PointContext), e ≤ s.time → s.pwk.attempt = some a → a.ending = false →
       a.fired = none → a.attempt ≠ 65535 → s.emt.context = some ctx → s.rgu.openShots = [] → s.pta.context = some q →
       q.line = a.line → q.attempt = a.attempt → s.FreeReport 1 →
       exec .attemptLimitExpiry s = .next (((((s.withEmt { s.emt with context := none, keptFired := none }).withRgu
         { s.rgu with record := none }).withPta { s.pta with predecessor := none, held := none, context := none }).withPwk
         { s.pwk with
           state := if s.pwk.pausePending then .paused else .lineWait
           pausePending := false
           attempt := none
           attemptNumber := s.pwk.attemptNumber + 1
           outgoing := none
           attemptLimit := none }).withRps
         (s.rps.plus (.lineAbandoned a.line a.attempt a.headAzimuth .mirror ctx.fired)))) ∧
  (∀ (s : State) (e : Nat) (a : AttemptRecord) (ctx : EmitContext) (q : PointContext) (x : Shot) (h : ClosedShot)
     (p : PointRecord), s.powered = true → s.pwk.attemptLimit = some e → e ≤ s.time → s.pwk.attempt = some a →
     a.ending = false → a.fired = none → a.attempt ≠ 65535 → s.emt.context = some ctx → s.rgu.openShots = [x] →
     x.line = a.line → x.attempt = a.attempt → s.pta.context = some q → q.line = a.line → q.attempt = a.attempt →
     s.pta.held = some h → s.rps.queue.length + 1 < 1984 → s.FreeReport 2 →
     s.judgeShot s.pta.predecessor h (some x.missed) = (s.judgeShot s.pta.predecessor h (some x.missed)).withRps
       (s.rps.plus (.point p)) →
     ∃ t, exec .attemptLimitExpiry s = .next t ∧
       (t.rps = (s.rps.plus (.point p)).plus (.lineAbandoned a.line a.attempt a.headAzimuth .mirror ctx.fired) ∨
        t.rps = (s.rps.plus (.lineAbandoned a.line a.attempt a.headAzimuth .mirror ctx.fired)).plus (.point p)) ∧
       t.rgu = { s.rgu with openShots := [], record := none } ∧
       t.pta = { s.pta with predecessor := none, held := none, context := none } ∧ t.pwk.attempt = none ∧
       t.pwk.attemptNumber = s.pwk.attemptNumber + 1) ∧
  ∀ (line attempt azimuth : Nat) (reason : AbandonReason) (fired : Nat),
    let codes : Nat × Nat × Nat := match reason with
      | .dirty .missing shot _ => (1, 1, shot)
      | .dirty .refused shot _ => (1, 2, shot)
      | .gate g => (2, 1, g.deviceMembership.toNat + 2 * g.mirrorSpeed.toNat + 4 * g.walker.toNat + 8 * g.ownPhoto.toNat +
          16 * g.peerQuiet.toNat + 32 * g.peerHold.toNat)
      | .mirror => (2, 2, 0)
      | .proximity => (2, 3, 0)
      | .stop => (3, 1, 0)
      | .duplicate => (3, 2, 0)
    (Record.lineAbandoned line attempt azimuth reason fired).HasLayout 4
      (match reason with | .dirty _ _ _ => 25 | _ => 21)
      ([(2, 4, line), (6, 2, attempt), (8, 3, azimuth), (11, 1, codes.1), (12, 1, codes.2.1), (13, 4, codes.2.2),
        (17, 4, fired)] ++ match reason with | .dirty _ _ offered => [(21, 4, offered)] | _ => [])

/-- The proximity halt (R38, R52, R109, R116). -/
def Obligations.ProximityHalts : Prop :=
  ∀ (s : State) (bs : List Byte) (e : EchoSet) (sh : Shot) (a : AttemptRecord) (ctx : EmitContext) (q : PointContext)
    (w : RangeRecord) (r : Nat),
    s.powered = true → s.cmu.device = .running →
    parseTransfer bs = some (e, []) → e.count ≠ 7 → (e.echoes.map (·.tof)).Pairwise (· < ·) →
    s.rgu.openShots = [sh] → sh.tag = e.tag → s.rgu.record = some w → w.watch = true → w.hitRaised = false →
    w.line = sh.line → w.attempt = sh.attempt → s.pwk.state = .line → s.pwk.attempt = some a → a.line = sh.line →
    a.attempt = sh.attempt → a.attempt ≠ 65535 → a.ending = false → a.fired = none → s.emt.context = some ctx →
    s.pta.context = some q → q.line = sh.line → q.attempt = sh.attempt → s.pta.held = none →
    ((e.echoes.take 4).filterMap s.rgu.rangeOf).find? (fun x => decide (x < s.cmu.settings.proximityLimit)) = some r →
    s.FreeReport 2 →
    ∃ t, exec (.echoSet ⟨true, bs⟩) s = .next t ∧
      t.pwk = { s.pwk with state := .halted, attempt := none, attemptNumber := s.pwk.attemptNumber + 1, outgoing := none,
                           attemptLimit := none, ownHold := some s.time } ∧
      t.emt = { s.emt with context := none, keptFired := none } ∧ t.rgu = { s.rgu with record := none, openShots := [], transfer := [] } ∧
      t.pta.context = none ∧ t.pta.held = none ∧
      t.rps = (s.rps.plus (.lineAbandoned a.line a.attempt a.headAzimuth .proximity ctx.fired)).plus
        (.event ⟨.proximityHalt r sh.line sh.attempt, 1, s.time⟩) ∧
      t.slc = (if s.cmu.settings.announceHolds then (s.slc.request s.time .hold).request s.time .beacon else s.slc) ∧
      t.anu = s.anu ∧ t.phc = s.phc ∧ t.pru = s.pru ∧ t.cmu = s.cmu ∧ t.cst = s.cst

/-- The head's steps (R102, R103, R114), and the photo of a PHOTO record at its arrival (R80, R81, R102, R113). That an arrival
is taken at a rise, the level then high, is the model's reading of in-position: log entry 14. -/
def Obligations.HeadArrives : Prop :=
  ∀ s : State, s.powered = true →
    (s.pwk.state ≠ .slewing → exec .inPositionRise s = .next (s.withPwk { s.pwk with inPosition := true })) ∧
    (s.pwk.state = .slewing → (∃ g, s.pwk.record s.pwk.recordIndex = .segment g) →
      exec .inPositionRise s = .next (s.withPwk { s.pwk with
        inPosition := true
        slew := { s.pwk.slew with arrived := true, faultTimer := none }
        state := if s.pwk.pausePending then .paused else .lineWait
        pausePending := false })) ∧
    (∀ azimuth mask m, s.pwk.state = .slewing → s.pwk.record s.pwk.recordIndex = .photo azimuth mask →
      s.phc.sequence = .idle → s.phc.Effective mask m →
      let arrived : Pwk := { s.pwk with
        inPosition := true, slew := { s.pwk.slew with arrived := true, faultTimer := none } }
      (m ≠ 0 → 0 < longest m s.cmu.settings.settle →
        exec .inPositionRise s = .next ((s.withPwk { arrived with state := .photo }).withPhc (s.settling m))) ∧
      ∀ g, m = 0 → s.pwk.saved = none → s.pwk.record (s.pwk.recordIndex + 1) = .segment g →
        s.pwk.headCommand ≠ some (g.azimuth 0) → exec .inPositionRise s = .next ((s.withPwk { arrived with
          state := .slewing
          recordIndex := s.pwk.recordIndex + 1
          segment := some ⟨s.pwk.recordIndex + 1, 0, g.lines, 0, 0⟩
          slew := ⟨some (g.azimuth 0), some s.time, false, some (s.time + 1000000000)⟩
          inPosition := false
          headCommand := some (g.azimuth 0) }).withPhc { s.phc with effectiveMask := 0 })) ∧
    ∀ e target, s.pwk.state = .slewing → s.pwk.slew.faultTimer = some e → s.pwk.slew.target = some target → e ≤ s.time →
      s.FreeReport 1 →
      exec .headFaultTimerExpiry s = .next ((s.withPwk { s.pwk with
        state := .faulted, slew := { s.pwk.slew with faultTimer := none } }).withRps
        (s.rps.plus (.event ⟨.headFault target s.pwk.recordIndex, 1, s.time⟩)))

/-- Settle, the quiet request, the exposure and its triggers (R82, R83, R85, R86). A QUIET frame already in sending at the entry
to GRANT_WAIT is no request of this photo (R83). That CAMERA_EXPOSURE_END before its time changes nothing is the model's
choice: log entry 10. -/
def Obligations.PhotoExposes : Prop :=
  (∀ (s : State) (e : Nat), s.powered = true → s.phc.timer = some e → e ≤ s.time →
     let longestExposure := longest s.phc.effectiveMask s.cmu.settings.exposure
     let w := min (250 + (longestExposure + 999) / 1000 + 20) 470
     let line := Slc.request s.time .quiet
       { s.slc with frame := s.slc.frame.map fun f => { f with inGrantWait := false } }
     (s.phc.sequence = .settle →
       (s.pru.liveStations ≠ [] → exec .settleEnd s = .next ((s.withPhc { s.phc with
         sequence := .grantWait, requestW := w, requestSent := false, expected := s.pru.liveStations, granted := []
         timer := some (s.time + 25000000) }).withSlc line)) ∧
       (s.pru.liveStations = [] → exec .settleEnd s = .next ((s.withPhc
         { s.exposing [] with requestW := w, requestSent := false }).withSlc line))) ∧
     (s.phc.sequence = .grantWait → exec .grantTimeout s = .next (s.withPhc
       (s.exposing (s.phc.expected.filter fun n => !s.phc.granted.contains n))))) ∧
  (∀ (s : State) (n t0 : Nat) (h : n < 4), s.powered = true → s.phc.sequence = .expose → s.phc.exposure.startTime = some t0 →
     (s.phc.exposure.cameras[n].trigger = true → t0 + 100 * s.phc.exposure.cameras[n].length ≤ s.time →
       exec (.cameraExposureEnd n) s = .next (s.withPhc { s.phc with exposure := { s.phc.exposure with
         cameras := s.phc.exposure.cameras.set n { s.phc.exposure.cameras[n] with trigger := false } } })) ∧
     ((s.phc.exposure.cameras[n].trigger = false ∨ s.time < t0 + 100 * s.phc.exposure.cameras[n].length) →
       exec (.cameraExposureEnd n) s = .next s))

/-- The release of a photo, interleaved or of a PHOTO record (R88, R89, R112, R113), and the layout of the PHOTO (R213). -/
def Obligations.PhotoReleased : Prop :=
  (∀ (s : State) (e k target : Nat) (x : SegmentContext) (g : Segment), s.powered = true → s.phc.sequence = .expose →
    s.phc.ownQuiet = true → s.phc.timer = some e → e ≤ s.time → s.phc.outgoing = [] → s.phc.nextNumber = some k →
    k + 4 ≤ 4294967295 → s.phc.catalogue.length ≤ 64 → s.FreeReport 4 → s.pwk.state = .photo →
    ((∃ c, s.pwk.saved = some c ∧ s.pwk.record c.record = .segment g ∧ c.lineIndex + 1 < c.lines ∧
        x = { c with lineIndex := c.lineIndex + 1 } ∧ target = g.azimuth (c.lineIndex + 1)) ∨
      (s.pwk.saved = none ∧ s.pwk.record (s.pwk.recordIndex + 1) = .segment g ∧
        x = ⟨s.pwk.recordIndex + 1, 0, g.lines, 0, 0⟩ ∧ target = g.azimuth 0)) →
    (s.pwk.inPosition = false ∨ s.pwk.headCommand ≠ some target) →
    let cameras := camerasOf s.phc.effectiveMask
    let made : List Photo := cameras.zipIdx.map fun ci =>
      ⟨k + ci.2, ci.1, (s.phc.exposure.headAzimuth.getD 0 + (s.phc.camera ci.1).azOffset) % 2 ^ 20,
        (s.phc.camera ci.1).elevation, s.phc.exposure.startTime.getD 0,
        ((s.phc.exposure.cameras[ci.1]?).map (·.length)).getD 0, s.phc.exposure.ungranted,
        ((s.phc.exposure.cameras[ci.1]?).map (·.peerLit)).getD false, false⟩
    ∃ t, exec .photoRelease s = .next t ∧
      t.phc.catalogue = (s.phc.catalogue ++ made).drop ((s.phc.catalogue ++ made).length - 64) ∧
      t.phc.nextNumber = some (k + cameras.length) ∧ t.rps.queue = s.rps.queue ++ made.map .photo ∧
      t.phc.sequence = .idle ∧ t.phc.ownQuiet = false ∧ t.phc.requestW = 0 ∧ t.phc.outgoing = [] ∧ t.phc.timer = none ∧
      (∀ c ∈ t.phc.exposure.cameras, c.trigger = false) ∧
      t.slc = s.slc.request s.time .quiet ∧ t.pwk.state = .slewing ∧ t.pwk.saved = none ∧ t.pwk.segment = some x ∧
      t.pwk.headCommand = some target ∧ t.pwk.slew = ⟨some target, some s.time, false, some (s.time + 1000000000)⟩ ∧ t.anu = s.anu ∧ t.emt = s.emt ∧ t.rgu = s.rgu ∧
      t.pta = s.pta ∧ t.pru = s.pru ∧ t.cmu = s.cmu ∧ t.cst = s.cst) ∧
  ∀ p : Photo, (Record.photo p).HasLayout 5 (25 + p.ungranted.length)
    ([(2, 4, p.number), (6, 1, p.camera), (7, 1, p.peerLit.toNat + 2 * p.aborted.toNat), (8, 3, p.azimuth),
      (11, 3, (p.elevation % 2 ^ 24).toNat), (14, 6, p.startTime), (20, 4, p.length), (24, 1, p.ungranted.length)] ++
      p.ungranted.zipIdx.map fun x => (25 + x.2, 1, x.1))

/-- The carrier-sense input (R127, R128, R130, R135). -/
def Obligations.CarrierSenseMoves : Prop :=
  ∀ s : State, s.powered = true →
    (s.slc.carrierSense = true → exec .carrierSenseRise s = .next s) ∧
    (s.slc.carrierSense = false → exec .carrierSenseFall s = .next s) ∧
    (s.slc.carrierSense = false →
      (s.slc.tx ≠ .wait → exec .carrierSenseRise s = .next (s.withSlc { s.slc with carrierSense := true })) ∧
      ∀ v, s.slc.tx = .wait → s.slc.generator = some v → exec .carrierSenseRise s = .next (s.withSlc { s.slc with
        carrierSense := true, access := none, jam := some (s.time + 20000000), backoff := v * 32 / 65536
        generator := some ((25173 * v + 13849) % 65536) })) ∧
    (s.slc.carrierSense = true → ∀ t, t = (if s.slc.tx = .wait then
        { s.slc with carrierSense := false, jam := none, access := some (s.time + (6400 + 1600 * s.slc.backoff)) }
      else { s.slc with carrierSense := false }) →
      ((∃ p, s.slc.assembler = .hunt p) → exec .carrierSenseFall s = .next (s.withSlc t)) ∧
      ((∃ bs, s.slc.assembler = .header bs ∨ s.slc.assembler = .body bs) →
        exec .carrierSenseFall s = .next (s.withSlc { t with
          assembler := .hunt false, byteGap := none
          counters := { s.slc.counters with broken := if s.slc.counters.broken < 65535 then s.slc.counters.broken + 1 else 65535 } })))

/-- The sending of a frame (R123, R124, R126, R129, R217, R218). -/
def Obligations.FrameGoesOut : Prop :=
  ∀ (s : State) (e : Nat), s.powered = true → s.slc.tx = .wait → s.slc.access = some e → e ≤ s.time → s.slc.anyPending = true →
    ∀ (k : FrameKind) (payload body : List Byte),
      k = (if s.slc.pendingHold then .hold else if s.slc.pendingQuiet then .quiet else .beacon) →
      payload = (match k with
        | .hold => [if s.pwk.ownHold.isSome then 1 else 0]
        | .quiet => [BitVec.ofNat 8 s.phc.requestW, BitVec.ofNat 8 (s.phc.requestW / 256)]
        | .beacon =>
          let grants := if s.slc.membership = .leaving then [] else (s.pru.entries.filter (·.2.window.isSome)).map (·.1)
          [match s.slc.membership with | .joining => 1 | .live => 2 | .leaving => 3 | _ => 0,
            (if s.emt.emit.isSome then 1 else 0) +
              (if s.pwk.ownHold.isSome && s.cmu.settings.announceHolds then 2 else 0),
            BitVec.ofNat 8 grants.length] ++ grants.map (BitVec.ofNat 8)) →
      body = [BitVec.ofNat 8 (s.cmu.settings.station.getD 0), match k with | .beacon => 1 | .quiet => 2 | .hold => 3,
        BitVec.ofNat 8 payload.length] ++ payload →
      exec .accessTimerExpiry s = .next (s.withSlc { s.slc with
        tx := .send, access := none, jam := none, assembler := .hunt false, byteGap := none
        pendingHold := s.slc.pendingHold && k != .hold
        pendingQuiet := s.slc.pendingQuiet && k != .quiet
        pendingBeacon := s.slc.pendingBeacon && k != .beacon
        frame := some ⟨k, [0x55, 0x55, 0xD3] ++ body ++
            [BitVec.ofNat 8 (crc16 body).toNat, BitVec.ofNat 8 ((crc16 body).toNat / 256)],
          s.time + 1000 * (8 + payload.length), k == .quiet && s.phc.sequence == .grantWait,
          k == .beacon && s.slc.membership == .leaving⟩ })

/-- The end of sending (R83, R126 to R129, R131, R133, R134). That the end of a BEACON's sending restarts the beacon timer also
where another BEACON is still pending, its own timer having expired meanwhile, is the model's choice: log entry 40. -/
def Obligations.SendingEnds : Prop :=
  ∀ (s : State) (f : TxFrame) (v : Nat), s.powered = true → s.slc.tx = .send → s.slc.frame = some f → f.finish ≤ s.time →
    s.slc.generator = some v →
    let base : Slc := { s.slc with frame := none, jamReported := false }
    let phc := if f.kind = .quiet ∧ f.inGrantWait = true ∧ s.phc.sequence = .grantWait then
      { s.phc with requestSent := true } else s.phc
    (f.leaving = false → (f.kind ≠ .beacon ∨ (s.slc.membership ≠ .joining ∧ s.slc.membership ≠ .live)) →
      (s.slc.anyPending = false → exec .sendingEnd s = .next ((s.withPhc phc).withSlc { base with tx := .idle })) ∧
      (s.slc.anyPending = true → s.slc.carrierSense = false → exec .sendingEnd s = .next ((s.withPhc phc).withSlc { base with
        tx := .wait, backoff := v * 32 / 65536, generator := some (lcg v), jam := none
        access := some (s.time + 6400 + 1600 * (v * 32 / 65536)) }))) ∧
    (f.leaving = false → f.kind = .beacon → (s.slc.membership = .joining ∨ s.slc.membership = .live) →
      (s.slc.anyPending = false → exec .sendingEnd s = .next (s.withSlc { base with
        tx := .idle, generator := some (lcg v), beaconTimer := some (s.time + 100000 * (100 + v * 20 / 65536)) })) ∧
      (s.slc.anyPending = true → s.slc.carrierSense = false → exec .sendingEnd s = .next (s.withSlc { base with
        tx := .wait, backoff := lcg v * 32 / 65536, generator := some (lcg (lcg v)), jam := none
        access := some (s.time + 6400 + 1600 * (lcg v * 32 / 65536))
        beaconTimer := some (s.time + 100000 * (100 + v * 20 / 65536)) }))) ∧
    (f.leaving = true → s.slc.rejoin = false → exec .sendingEnd s = .next (s.withSlc { base with
      tx := .idle, access := none, jam := none, pendingBeacon := false, leaveTimer := none, membership := .offline })) ∧
    (f.leaving = true → s.slc.rejoin = true → ∃ t, exec .sendingEnd s = .next t ∧ t.slc.membership = .joining ∧
      t.slc.pendingBeacon = true ∧ t.slc.tx = .wait ∧ t.slc.leaveTimer = none ∧ t.slc.rejoin = false ∧
      t.slc.counters = ⟨0, 0, 0, 0, 0⟩ ∧ t.pru = { s.pru with joinTimer := some (s.time + 30000000) } ∧
      t = (s.withSlc t.slc).withPru t.pru)

/-- Jam, beacon and leave timers (R130, R131, R133, R134). -/
def Obligations.LineTimersExpire : Prop :=
  ∀ (s : State) (e : Nat), s.powered = true → e ≤ s.time →
    (s.slc.tx = .wait → s.slc.jam = some e →
      (s.slc.jamReported = true → exec .jamTimerExpiry s = .next (s.withSlc { s.slc with jam := none })) ∧
      (s.slc.jamReported = false → s.FreeReport 1 → exec .jamTimerExpiry s =
        .next ((s.withSlc { s.slc with jam := none, jamReported := true }).withRps (s.rps.plusEvent s.cmu.settings s.time
          (.lineJammed s.slc.pendingHold s.slc.pendingQuiet s.slc.pendingBeacon))))) ∧
    (s.slc.beaconTimer = some e → (s.slc.membership = .joining ∨ s.slc.membership = .live) →
      exec .beaconTimerExpiry s = .next (s.withSlc (if s.slc.pendingBeacon then { s.slc with beaconTimer := none }
        else if s.slc.tx = .idle then Slc.enterWait s.time { s.slc with beaconTimer := none, pendingBeacon := true }
        else { s.slc with beaconTimer := none, pendingBeacon := true }))) ∧
    (s.slc.leaveTimer = some e →
      (s.slc.tx = .wait → s.slc.rejoin = false → exec .leaveTimerExpiry s = .next (s.withSlc { s.slc with
        membership := .offline, leaveTimer := none, tx := .idle, access := none, jam := none, pendingBeacon := false })) ∧
      (s.slc.tx = .wait → s.slc.rejoin = true → ∃ t, exec .leaveTimerExpiry s = .next t ∧ t.slc.membership = .joining ∧
        t.slc.pendingBeacon = true ∧ t.slc.tx = .wait ∧ t.slc.leaveTimer = none ∧ t.slc.rejoin = false ∧
        t.slc.counters = ⟨0, 0, 0, 0, 0⟩ ∧ t.pru = { s.pru with joinTimer := some (s.time + 30000000) } ∧
        t = (s.withSlc t.slc).withPru t.pru) ∧
      (s.slc.tx = .send → exec .leaveTimerExpiry s = .next (s.withSlc { s.slc with leaveTimer := none })))

/-- The receive assembler byte by byte (R135). That the 50 µs gap runs from the sync byte on is the model's reading: log entry
31; that a byte taken outside HUNT is no preamble byte is its choice: log entry 38. -/
def Obligations.AssemblerTakesBytes : Prop :=
  ∀ (s : State) (b : Byte), s.powered = true →
    (s.slc.listening = false → ∀ ok, exec (.siteByteReceived b ok) s = .next s) ∧
    (s.slc.listening = true → ∀ p, s.slc.assembler = .hunt p →
      (p = true → b = 0xD3 → exec (.siteByteReceived b true) s =
        .next (s.withSlc { s.slc with assembler := .header [], byteGap := some (s.time + 5000) })) ∧
      ((p = false ∨ b ≠ 0xD3) → exec (.siteByteReceived b true) s =
        .next (s.withSlc { s.slc with assembler := .hunt (b == 0x55) }))) ∧
    (s.slc.listening = true → ∀ x y, s.slc.assembler = .header [x, y] → 17 < b.toNat →
      exec (.siteByteReceived b true) s = .next (s.withSlc { s.slc with assembler := .hunt false, byteGap := none, counters :=
          { s.slc.counters with form := if s.slc.counters.form < 65535 then s.slc.counters.form + 1 else 65535 } })) ∧
    ∀ bs, (s.slc.assembler = .header bs ∨ s.slc.assembler = .body bs) →
      ∀ t, t = s.withSlc { s.slc with assembler := .hunt false, byteGap := none, counters :=
          { s.slc.counters with broken := if s.slc.counters.broken < 65535 then s.slc.counters.broken + 1 else 65535 } } →
        (s.slc.listening = true → exec (.siteByteReceived b false) s = .next t) ∧
        ∀ e, s.slc.byteGap = some e → e ≤ s.time → exec .byteGapExpiry s = .next t

/-- The checks of a received frame (R135, R136). That a whole frame of more than 17 payload bytes counts as FORM in one row is
the model's choice: log entry 12. -/
def Obligations.FramesDiscarded : Prop :=
  ∀ (s : State) (station kind : Byte) (payload : List Byte) (check : Word16), s.powered = true →
    let good := crc16 ([station, kind, BitVec.ofNat 8 payload.length] ++ payload)
    let plus : Nat → Nat := fun n => if n < 65535 then n + 1 else 65535
    (s.slc.listening = false → exec (.siteFrameReceived station kind payload check) s = .next s) ∧
    (s.slc.listening = true → s.slc.assembler = .hunt false → s.slc.byteGap = none →
      (17 < payload.length → exec (.siteFrameReceived station kind payload check) s = .next (s.withSlc { s.slc with
        counters := { s.slc.counters with form := plus s.slc.counters.form } })) ∧
      (payload.length ≤ 17 → check ≠ good → exec (.siteFrameReceived station kind payload check) s = .next (s.withSlc
        { s.slc with counters := { s.slc.counters with check := plus s.slc.counters.check } })) ∧
      (payload.length ≤ 17 → check = good → (station = 0 ∨ 15 < station.toNat) →
        exec (.siteFrameReceived station kind payload check) s = .next (s.withSlc { s.slc with
          counters := { s.slc.counters with station := plus s.slc.counters.station } })) ∧
      (payload.length ≤ 17 → check = good → 1 ≤ station.toNat → station.toNat ≤ 15 →
        ((kind = 0 ∨ 3 < kind.toNat) → exec (.siteFrameReceived station kind payload check) s = .next (s.withSlc { s.slc with
          counters := { s.slc.counters with kind := plus s.slc.counters.kind } })) ∧
        (((kind = 1 ∧ (payload.length < 3 ∨ payload.length ≠ 3 + (payload.getD 2 0).toNat ∨
                ¬ (1 ≤ (payload.getD 0 0).toNat ∧ (payload.getD 0 0).toNat ≤ 3) ∨
                (∃ g ∈ payload.drop 3, g = 0 ∨ 15 < g.toNat) ∨ ¬ (payload.drop 3).Nodup)) ∨
            (kind = 2 ∧ payload.length ≠ 2) ∨ (kind = 3 ∧ payload ≠ [0] ∧ payload ≠ [1])) →
          exec (.siteFrameReceived station kind payload check) s = .next (s.withSlc { s.slc with
            counters := { s.slc.counters with form := plus s.slc.counters.form } }))))

/-- A QUIET frame (R140 to R142, R155, R156). -/
def Obligations.QuietFrameGrants : Prop :=
  ∀ (s : State) (n w : Nat) (p : Peer), s.powered = true → s.slc.listening = true → s.slc.assembler = .hunt false →
    s.slc.byteGap = none → 1 ≤ n → n ≤ 15 → w < 65536 → s.cmu.settings.station ≠ some n → s.pru.peer n = some p →
    s.FreeReport 1 →
    let payload : List Byte := [BitVec.ofNat 8 w, BitVec.ofNat 8 (w / 256)]
    let frame : Instr := .siteFrameReceived (BitVec.ofNat 8 n) 2 payload (crc16 ([BitVec.ofNat 8 n, 2, 2] ++ payload))
    let heard : Peer := { p with seen := .live, lastHeard := s.time, age := s.time + 30000000 }
    (0 < w → exec frame s = .next (((s.withPru (s.pru.setPeer n (some { heard with
      window := some (s.time + 100000 * min w 500) }))).withRps (s.rps.plusEvent s.cmu.settings s.time
        (.quietGranted n (min w 500) p.window.isSome (decide (500 < w))))).withSlc (s.slc.request s.time .beacon))) ∧
    (w = 0 → p.window.isSome = true → exec frame s = .next (((s.withPru (s.pru.setPeer n (some { heard with
      window := none }))).withRps (s.rps.plusEvent s.cmu.settings s.time (.quietClosed n .cancel))).withSlc
        (s.slc.request s.time .beacon))) ∧
    (w = 0 → p.window = none → exec frame s = .next (s.withPru (s.pru.setPeer n (some heard))))

/-- A HOLD frame and the entry it makes (R141, R142, R164); a BEACON of a station in JOINING or LIVE: its flags, its hold and
its grant list in the entry, and the beacon notice at PHC (R83, R85, R87, R141, R142, R164); and a LEAVING beacon (R84, R85,
R144, R145, R158, R165). -/
def Obligations.PeerJoinsAndHolds : Prop :=
  (∀ (s : State) (n : Nat) (on : Bool), s.powered = true → s.slc.listening = true → s.slc.assembler = .hunt false →
    s.slc.byteGap = none → 1 ≤ n → n ≤ 15 → s.cmu.settings.station ≠ some n → s.FreeReport 2 →
    let frame : Instr := .siteFrameReceived (BitVec.ofNat 8 n) 3 [if on then 1 else 0]
      (crc16 [BitVec.ofNat 8 n, 3, 1, if on then 1 else 0])
    (s.pru.peer n = none → exec frame s = .next ((s.withPru (s.pru.setPeer n
      (some ⟨.live, s.time, s.time + 30000000, false, on, none, false⟩))).withRps
        (if on then (s.rps.plusEvent s.cmu.settings s.time (.peerJoined n .live)).plusEvent s.cmu.settings s.time
            (.peerHold n true .hold)
          else s.rps.plusEvent s.cmu.settings s.time (.peerJoined n .live)))) ∧
    ∀ p, s.pru.peer n = some p → exec frame s = .next ((s.withPru (s.pru.setPeer n
      (some { p with seen := .live, lastHeard := s.time, age := s.time + 30000000, hold := on }))).withRps
        (if p.hold = on then s.rps else s.rps.plusEvent s.cmu.settings s.time (.peerHold n on .hold)))) ∧
  ∀ (s : State) (own n : Nat) (m : Membership) (firing hold : Bool) (grants : List Nat), s.powered = true →
    s.slc.listening = true → s.slc.assembler = .hunt false → s.slc.byteGap = none → 1 ≤ n → n ≤ 15 →
    s.cmu.settings.station = some own → own ≠ n → (∀ g ∈ grants, 1 ≤ g ∧ g ≤ 15) → grants.Nodup → grants.length ≤ 14 →
    s.FreeReport 3 →
    let payload : List Byte := [match m with | .joining => 1 | .live => 2 | _ => 3,
      (if firing then 1 else 0) + (if hold then 2 else 0), BitVec.ofNat 8 grants.length] ++ grants.map (BitVec.ofNat 8)
    let beacon : Instr := .siteFrameReceived (BitVec.ofNat 8 n) 1 payload
      (crc16 ([BitVec.ofNat 8 n, 1, BitVec.ofNat 8 payload.length] ++ payload))
    let listed := grants.contains own
    (m = .joining ∨ m = .live → ∀ (p : Peer) (joined q : Rps) (x : Phc),
      (s.pru.peer n = some p ∧ joined = s.rps ∨ s.pru.peer n = none ∧ p = ⟨m, 0, 0, false, false, none, false⟩ ∧
        joined = s.rps.plusEvent s.cmu.settings s.time (.peerJoined n m)) →
      q = (if p.hold = hold then joined else joined.plusEvent s.cmu.settings s.time (.peerHold n hold .beacon)) →
      ((s.phc.sequence = .idle ∨ s.phc.sequence = .settle) ∧ x = s.phc ∨
       s.phc.sequence = .expose ∧ x = (if firing then { s.phc with exposure := { s.phc.exposure with
         cameras := s.phc.exposure.cameras.map fun c => { c with peerLit := c.peerLit || c.trigger } } } else s.phc) ∨
       s.phc.sequence = .grantWait ∧ (s.phc.requestSent = false ∨ n ∉ s.phc.expected) ∧
         (∃ k ∈ s.phc.expected, k ∉ s.phc.granted) ∧ x = s.phc ∨
       s.phc.sequence = .grantWait ∧ s.phc.requestSent = true ∧ n ∈ s.phc.expected ∧ listed = false ∧
         x = { s.phc with granted := s.phc.granted.filter (· ≠ n) } ∨
       s.phc.sequence = .grantWait ∧ s.phc.requestSent = true ∧ n ∈ s.phc.expected ∧ listed = true ∧
         (∃ k ∈ s.phc.expected, k ≠ n ∧ k ∉ s.phc.granted) ∧
         x = { s.phc with granted := if n ∈ s.phc.granted then s.phc.granted else s.phc.granted ++ [n] } ∨
       s.phc.sequence = .grantWait ∧ s.phc.requestSent = true ∧ n ∈ s.phc.expected ∧ listed = true ∧
         (∀ k ∈ s.phc.expected, k ≠ n → k ∈ s.phc.granted) ∧ x = s.exposing []) →
      exec beacon s = .next (((s.withPru (s.pru.setPeer n (some { p with
        seen := m, lastHeard := s.time, age := s.time + 30000000, firing := firing, hold := hold
        grantedToMe := listed }))).withRps q).withPhc x)) ∧
    (m = .leaving →
      (s.pru.peer n = none → exec beacon s = .next s) ∧
      ∀ (p : Peer) (q1 q2 : Rps) (x : Phc), s.pru.peer n = some p →
        q1 = (if p.window.isSome then s.rps.plusEvent s.cmu.settings s.time (.quietClosed n .removed) else s.rps) →
        q2 = (if p.hold then q1.plusEvent s.cmu.settings s.time (.peerHold n false .removed) else q1) →
        (s.phc.sequence ≠ .grantWait ∧ x = s.phc ∨
         s.phc.sequence = .grantWait ∧ (∃ k ∈ s.phc.expected, k ≠ n ∧ k ∉ s.phc.granted) ∧ x = { s.phc with
           expected := s.phc.expected.filter (· ≠ n), granted := s.phc.granted.filter (· ≠ n) } ∨
         s.phc.sequence = .grantWait ∧ (∀ k ∈ s.phc.expected, k ≠ n → k ∈ s.phc.granted) ∧ x = s.exposing []) →
        exec beacon s = .next ((((s.withPru (s.pru.setPeer n none)).withSlc
          (if p.window.isSome then s.slc.request s.time .beacon else s.slc)).withRps
          (q2.plusEvent s.cmu.settings s.time (.peerLost n .left))).withPhc x))

/-- The removal of a silent peer and the expiry of a window (R143, R145, R157, R158, R165). That the rows change nothing before
their expiry, or without a window, is the model's choice: log entry 10. -/
def Obligations.PeerTimersExpire : Prop :=
  (∀ (s : State) (n : Nat) (p : Peer), s.powered = true → s.pru.peer n = some p →
     (s.time < p.age → exec (.ageTimerExpiry n) s = .next s) ∧
     (p.age ≤ s.time → s.phc.sequence ≠ .grantWait → s.FreeReport 3 → ∀ q1 q2 : Rps,
       q1 = (if p.window.isSome then s.rps.plusEvent s.cmu.settings s.time (.quietClosed n .removed) else s.rps) →
       q2 = (if p.hold then q1.plusEvent s.cmu.settings s.time (.peerHold n false .removed) else q1) →
       exec (.ageTimerExpiry n) s = .next (((s.withPru (s.pru.setPeer n none)).withSlc
         (if p.window.isSome then s.slc.request s.time .beacon else s.slc)).withRps
         (q2.plusEvent s.cmu.settings s.time (.peerLost n .aged))))) ∧
  (∀ (s : State) (n : Nat) (p : Peer), s.powered = true → s.pru.peer n = some p →
     (p.window = none → exec (.quietWindowExpiry n) s = .next s) ∧
     ∀ e, p.window = some e →
       (s.time < e → exec (.quietWindowExpiry n) s = .next s) ∧
       (e ≤ s.time → s.FreeReport 1 → exec (.quietWindowExpiry n) s =
         .next (((s.withPru (s.pru.setPeer n (some { p with window := none }))).withRps
           (s.rps.plusEvent s.cmu.settings s.time (.quietClosed n .expiry))).withSlc (s.slc.request s.time .beacon))))

/-- The end of the join window (R98, R99, R102, R146), with a SEGMENT, a REPEAT (R100) or END (R101, R198) at the START index.
That in-position falls at a head command to another target is the model's: log entry 14; what PWK keeps at the end of a run
beyond R119 is log entry 37. -/
def Obligations.JoinWindowEnds : Prop :=
  ∀ (s : State) (e : Nat), s.powered = true → s.slc.membership = .joining → s.pru.joinTimer = some e → e ≤ s.time →
    s.FreeReport 1 →
    let live := (((s.withPru { s.pru with joinTimer := none }).withSlc
      (Slc.request s.time .beacon { s.slc with membership := .live })).withRps (s.rps.plusEvent s.cmu.settings s.time
        (.live s.pru.entries.length s.pru.liveStations.length)))
    let slewing : Nat → Segment → Pwk := fun j g => { s.pwk with
      armed := false, deferred := none, state := .slewing, recordIndex := j
      segment := some ⟨j, 0, g.lines, 0, 0⟩
      slew := ⟨some (g.azimuth 0), some s.time, false, some (s.time + 1000000000)⟩
      inPosition := false, headCommand := some (g.azimuth 0) }
    (s.pwk.armed = false → exec .joinTimerExpiry s = .next live) ∧
    (s.pwk.armed = true → s.pwk.state = .idle → s.pwk.outgoing = none →
      (∀ g, s.pwk.record s.pwk.recordIndex = .segment g →
        (s.pwk.inPosition = false ∨ s.pwk.headCommand ≠ some (g.azimuth 0)) →
        exec .joinTimerExpiry s = .next (live.withPwk (slewing s.pwk.recordIndex g))) ∧
      (∀ target count g counter next loaded, s.pwk.record s.pwk.recordIndex = .repeatFrom target count →
        s.pwk.counters[s.pwk.recordIndex]? = some counter →
        (counter = none ∧ next = target ∧ loaded = some (count - 1) ∨
         counter = some 0 ∧ next = s.pwk.recordIndex + 1 ∧ loaded = none ∨
         (∃ k, counter = some (k + 1) ∧ next = target ∧ loaded = some k)) →
        s.pwk.record next = .segment g → (s.pwk.inPosition = false ∨ s.pwk.headCommand ≠ some (g.azimuth 0)) →
        exec .joinTimerExpiry s = .next (live.withPwk { slewing next g with
          counters := s.pwk.counters.setIfInBounds s.pwk.recordIndex loaded })) ∧
      (s.pwk.record s.pwk.recordIndex = .planEnd → s.FreeReport 2 → s.emt.emit = none →
        ∃ t, exec .joinTimerExpiry s = .next t ∧ t.cmu = { s.cmu with device := .ready } ∧
          t.rps = live.rps.plusEvent s.cmu.settings s.time (.planDone (s.pwk.lineCounter - 1)) ∧
          t.pwk = { s.pwk with
            state := .idle, armed := false, pausePending := false, ownHold := none, saved := none, segment := none
            counters := .replicate 64 none, attempt := none, slew := { s.pwk.slew with faultTimer := none }
            attemptLimit := none, deferred := none } ∧
          t.emt = { s.emt with startTime := none, schedule := none, generator := none, context := none
                               keptFired := s.emt.context.map (·.fired) } ∧
          t.rgu = { s.rgu with openShots := [], record := none } ∧ t.pta = ⟨none, none, none, none⟩ ∧
          t.slc.membership = .leaving ∧ t.slc.pendingBeacon = true ∧ t.slc.pendingHold = false ∧
          t.slc.pendingQuiet = false ∧ t.slc.leaveTimer = some (s.time + 5000000) ∧ t.slc.beaconTimer = none ∧
          t.pru = ⟨.replicate 15 none, none⟩ ∧ t.anu = s.anu ∧ t.phc = s.phc ∧ t.cst = s.cst))

/-- The duplicate judgement (R140, R147, R148) of every frame that bears the own number, and the end of the run it brings: a photo
in progress aborted (R90), an attempt open or ending abandoned (R37, R119), the run ended at every block (R198). What PWK keeps
beyond R119 is log entry 37; that the photographs stand before the abandonment is log entry 28 (DEDUCED), and the aborted length
in whole microseconds is log entry 20. -/
def Obligations.DuplicateEndsRun : Prop :=
  ∀ (s : State) (n : Nat), s.powered = true → s.slc.listening = true → s.slc.assembler = .hunt false →
    s.slc.byteGap = none → 1 ≤ n → n ≤ 15 → s.cmu.settings.station = some n →
    let frame : FrameKind → List Byte → Instr := fun kind payload =>
      let code : Byte := match kind with | .beacon => 1 | .quiet => 2 | .hold => 3
      .siteFrameReceived (BitVec.ofNat 8 n) code payload
        (crc16 ([BitVec.ofNat 8 n, code, BitVec.ofNat 8 payload.length] ++ payload))
    let beacon : Byte → Bool → Bool → List Nat → List Byte := fun membership firing hold grants =>
      [membership, (if firing then 1 else 0) + (if hold then 2 else 0), BitVec.ofNat 8 grants.length] ++
        grants.map (BitVec.ofNat 8)
    (∀ (kind : FrameKind) (spoken : Membership) (payload : List Byte) (k : Nat) (made : List Photo) (abandoned : List Record),
      (kind = .hold ∧ spoken = .live ∧ (payload = [0] ∨ payload = [1]) ∨
       kind = .quiet ∧ spoken = .live ∧ payload.length = 2 ∨
       kind = .beacon ∧ ∃ firing hold grants, (∀ g ∈ grants, 1 ≤ g ∧ g ≤ 15) ∧ grants.Nodup ∧ grants.length ≤ 14 ∧
         (spoken = .live ∧ payload = beacon 2 firing hold grants ∨
          spoken = .joining ∧ s.slc.membership = .joining ∧ payload = beacon 1 firing hold grants)) →
      s.FreeReport 6 → s.phc.Abortable k → made = (if s.phc.sequence = .idle then [] else s.abortedEntries k) →
      s.StopRecord .duplicate abandoned →
      ∃ t, exec (frame kind payload) s = .next t ∧
        t.slc.membership = .duplicate ∧ t.slc.anyPending = false ∧ t.slc.tx = .idle ∧ t.slc.beaconTimer = none ∧
        t.slc.access = none ∧ t.slc.jam = none ∧ t.slc.counters = s.slc.counters ∧
        t.pru.entries = [] ∧ t.pru.joinTimer = none ∧ t.cmu = { s.cmu with device := .ready } ∧
        t.rps.queue = s.rps.queue ++ [.event ⟨.duplicateStation s.slc.membership kind spoken, 1, s.time⟩] ++
          made.map .photo ++ abandoned ∧
        t.emt.schedule = none ∧ t.emt.startTime = none ∧ t.emt.context = none ∧ t.emt.emit = none ∧ t.rgu.openShots = [] ∧
        t.rgu.record = none ∧ t.pta.context = none ∧ t.pta.held = none ∧ t.pwk.state = .idle ∧ t.pwk.attempt = none ∧
        t.pwk.armed = false ∧ t.pwk.ownHold = none ∧ t.pwk.plan = s.pwk.plan ∧ t.anu = s.anu ∧
        s.phc.EndedBy k made t.phc ∧ t.cst = s.cst) ∧
    ∀ (firing hold : Bool) (grants : List Nat), (∀ g ∈ grants, 1 ≤ g ∧ g ≤ 15) → grants.Nodup → grants.length ≤ 14 →
      (s.slc.membership = .live → exec (frame .beacon (beacon 1 firing hold grants)) s = .next s) ∧
      exec (frame .beacon (beacon 3 firing hold grants)) s = .next s

/-- The report port (R174, R177, R179, R185, R186, R192, R210): the word presented, the departure of a record, the waiters for
the freed entry, and the pending event set while the queue is full (R181 to R184, R214). -/
def Obligations.ReportWordTaken : Prop :=
  (∀ s : State, s.powered = true →
    (s.rps.queue = [] → exec .reportWordTaken s = .next s ∧ s.rps.valid = false ∧ s.rps.data = 0) ∧
    ∀ r rest, s.rps.queue = r :: rest →
      (s.rps.valid = true ∧ s.rps.data.toNat =
        (r.bytes.getD (2 * s.rps.port) 0).toNat + 256 * (r.bytes.getD (2 * s.rps.port + 1) 0).toNat) ∧
      (s.rps.port + 1 < r.wordCount →
        exec .reportWordTaken s = .next (s.withRps { s.rps with port := s.rps.port + 1 })) ∧
      (r.wordCount ≤ s.rps.port + 1 → s.rps.events = [] →
        (rest.length + 1 < 2048 → (s.rps.thinning = true → rest.length ≠ s.cmu.settings.resumeThreshold) →
          exec .reportWordTaken s = .next (s.withRps { s.rps with queue := rest, port := 0 })) ∧
        (rest.length + 1 < 2048 → s.rps.thinning = true → rest.length = s.cmu.settings.resumeThreshold →
          s.cmu.settings.resumeThreshold + 1 < s.cmu.settings.thinThreshold →
          exec .reportWordTaken s = .next (s.withRps (Rps.plusEvent s.cmu.settings s.time (.thinningOff rest.length)
            { s.rps with queue := rest, port := 0, thinning := false })))) ∧
      (r.wordCount ≤ s.rps.port + 1 → rest.length + 1 = 2048 → s.rps.thinning = true →
        s.cmu.settings.resumeThreshold < 2047 →
        let entered : Record → Rps := fun x => { s.rps with queue := rest ++ [x], port := 0 }
        (∀ reply, s.cmu.reply = some reply → exec .reportWordTaken s =
          .next ((s.withRps (entered (.reply reply))).withCmu { s.cmu with reply := none, ready := true })) ∧
        (∀ x, s.cmu.reply = none → s.pwk.outgoing = some x → s.pwk.deferred = none → exec .reportWordTaken s =
          .next ((s.withRps (entered x)).withPwk { s.pwk with outgoing := none })) ∧
        (∀ p q more, s.cmu.reply = none → s.pwk.outgoing = none → s.phc.outgoing = p :: q :: more →
          exec .reportWordTaken s =
            .next ((s.withRps (entered (.photo p))).withPhc { s.phc with outgoing := q :: more })) ∧
        ∀ e later, s.cmu.reply = none → s.pwk.outgoing = none → s.phc.outgoing = [] → s.rps.events = e :: later →
          exec .reportWordTaken s = .next (s.withRps { entered (.event e) with events := later }))) ∧
  (∀ (s : State) (expiry : Nat), s.powered = true → s.anu.monitor = .ok → s.anu.absence = some expiry → expiry ≤ s.time →
    s.cmu.device = .running → exec .absenceTimerExpiry s = .next ((s.withAnu { s.anu with
      monitor := .fault, inRangeRun := 0, absence := none }).raise (.mirrorFault .absent none))) ∧
  (∀ (s : State) (e : Event), s.rps.queue.length = 2048 →
    let dropped := s.cmu.settings.eventMask.getLsbD e.kind = true ∧ e.kind ∉ [0, 1, 4, 19]
    (dropped → s.raise e = s) ∧
    (¬ dropped → ∃ es, s.raise e = s.withRps { s.rps with events := es } ∧ (s.raise e).rps.attn = true ∧
      (s.rps.events.Pairwise (fun x y => x.event.kind < y.event.kind) →
        es.Pairwise (fun x y => x.event.kind < y.event.kind) ∧
        ((∀ x ∈ s.rps.events, x.event.kind ≠ e.kind) → es.Perm (⟨e, 1, s.time⟩ :: s.rps.events)) ∧
        ∀ x ∈ s.rps.events, x.event.kind = e.kind → es = s.rps.events.map fun y =>
          if y.event.kind = e.kind then ⟨e, if x.count < 255 then x.count + 1 else 255, s.time⟩ else y))) ∧
  ∀ (e : PendingEvent) (kind : Nat) (detail : List (Nat × Nat × Nat)),
    let membership : Membership → Nat := fun m => match m with
      | .offline => 0 | .joining => 1 | .live => 2 | .leaving => 3 | .duplicate => 4
    (kind, detail) = (match e.event with
      | .proximityHalt range line attempt => (0, [(0, 4, range), (4, 4, line), (8, 2, attempt)])
      | .headFault target record => (1, [(0, 3, target), (3, 1, record)])
      | .mirrorFault cause period =>
        (2, [(0, 1, match cause with | .short => 1 | .long => 2 | .absent => 3), (1, 4, period.getD 0)])
      | .mirrorOk period => (3, [(0, 4, period)])
      | .duplicateStation own frame spoken => (4, [(0, 1, membership own),
          (1, 1, match frame with | .beacon => 1 | .quiet => 2 | .hold => 3), (2, 1, membership spoken)])
      | .peerHold station on source => (5, [(0, 1, station), (1, 1, on.toNat),
          (2, 1, match source with | .hold => 1 | .beacon => 2 | .removed => 3)])
      | .live entries liveEntries => (6, [(0, 1, entries), (1, 1, liveEntries)])
      | .peerJoined station seen => (7, [(0, 1, station), (1, 1, membership seen)])
      | .peerLost station cause => (8, [(0, 1, station), (1, 1, match cause with | .aged => 1 | .left => 2)])
      | .quietGranted station length replaced clamped =>
        (9, [(0, 1, station), (1, 2, length), (3, 1, if replaced then 2 else 1), (4, 1, clamped.toNat)])
      | .quietClosed station cause =>
        (10, [(0, 1, station), (1, 1, match cause with | .cancel => 1 | .expiry => 2 | .removed => 3)])
      | .lineGap line counted => (11, [(0, 4, line), (4, 1, counted)])
      | .echoSlip cause tag => (12, [(0, 1, match cause with | .format => 1 | .order => 2 | .unmatched => 3), (1, 1, tag)])
      | .thinningOn occupancy => (13, [(0, 2, occupancy)])
      | .thinningOff occupancy => (14, [(0, 2, occupancy)])
      | .lineJammed hold quiet beacon => (15, [(0, 1, hold.toNat + 2 * quiet.toNat + 4 * beacon.toNat)])
      | .calRowBad row cause => (16, [(0, 1, row), (1, 1, match cause with | .load => 1 | .reload => 2)])
      | .calStored row => (17, [(0, 1, row)])
      | .planDone lines => (18, [(0, 4, lines)])
      | .resetCause cause row => (19, [(0, 1, match cause with | .power => 1 | .line => 2 | .command => 3),
          (1, 1, row.isSome.toNat), (2, 1, row.getD 0)])) →
    e.event.kind = kind ∧ (Record.event e).HasLayout 6 22
      ([(2, 1, kind), (3, 1, e.count), (4, 6, e.time)] ++ detail.map fun f => (10 + f.1, f.2.1, f.2.2))

/-- The acceptance of a CONFIGURE (R5, R180, R194, R195): each numeric setting is the given value, or its default where the
command gives none, clamped to its range; the bounds of the low period limit, of D and of the resume threshold are the
dependent ones of step 3. That the REPLY stands behind the event of the thresholds judged is log entry 23 (DEDUCED); one whose own
entry brings the occupancy to the thin threshold stands before it (R179). -/
def Obligations.ConfigureAccepted : Prop :=
  ∀ (s : State) (es : List SettingEntry), s.Takes (.configure es) → es.length ≤ 255 → s.cmu.device ≠ .running →
    s.slc.membership ≠ .leaving → refusedSetting es = none → s.rps.events = [] → s.rps.queue.length + 2 ≤ 2048 →
    let c := configurationOf es
    -- setting number, bounds, default, value in force
    let numeric : List (Nat × Int × Int × Int × Int) :=
      [(2, 12, 16, 14, c.mirrorExponent), (3, 14, 20, 18, c.headExponent), (4, 5000, c.periodHigh, 9500, c.periodLow),
       (5, 5000, 100000, 10500, c.periodHigh), (6, 16384, 131072, 65536, c.blindHalfWidth),
       (7, 100, 10000, 200, c.basePeriod), (8, 0, c.basePeriod / 8, c.basePeriod / 8, c.dither),
       (9, 0, 100000, 6000, c.minRange), (10, 1000, 25000000, 3000000, c.maxRange),
       (11, 0, 50000, 20000, c.proximityLimit), (13, 0, 65535, 500, c.tolerance), (15, -300, 300, 0, c.ppm),
       (18, 1, 60, 2, c.holdMinimum), (19, 100, 200000, 10000, c.exposure[0]), (20, 100, 200000, 10000, c.exposure[1]),
       (21, 100, 200000, 10000, c.exposure[2]), (22, 100, 200000, 10000, c.exposure[3]), (23, 0, 2000, 100, c.settle[0]),
       (24, 0, 2000, 100, c.settle[1]), (25, 0, 2000, 100, c.settle[2]), (26, 0, 2000, 100, c.settle[3]),
       (27, 256, 1983, 1536, c.thinThreshold), (28, 0, c.thinThreshold - 1, 1024, c.resumeThreshold)]
    let clamped := (numeric.filter fun r => (given es r.1).getD r.2.2.2.1 ≠ r.2.2.2.2).map (·.1)
    (∀ k lo hi default value, (k, lo, hi, default, value) ∈ numeric →
      value = max lo (min hi ((given es k).getD default))) ∧
    (∃ n : Nat, given es 1 = some (n : Int) ∧ c.station = some n ∧ 1 ≤ n ∧ n ≤ 15) ∧
    c.continuity = (if given es 12 = some 0 then .off else if given es 12 = some 2 then .both else .oneSide) ∧
    c.unconfirmed = (if given es 14 = some 0 then .mark else .drop) ∧
    c.honourHolds = decide (given es 16 ≠ some 0) ∧ c.announceHolds = decide (given es 17 ≠ some 0) ∧
    c.eventMask = BitVec.ofInt 20 ((given es 29).getD 0) ∧
    let reply : Reply := ⟨1, .ok, 0, .configured clamped.length (clamped.headD 0)⟩
    let base : State := (s.withAnu { s.anu with
      mirror := if s.cmu.settings.mirrorExponent = c.mirrorExponent then s.anu.mirror else
        { s.anu.mirror with count := 0, edgesSeen := .zero, edgeTime := none, interval := none }
      head := if s.cmu.settings.headExponent = c.headExponent then s.anu.head else
        { s.anu.head with count := 0, edgesSeen := .zero, edgeTime := none, interval := none } }).withCmu
      { s.cmu with settings := c, device := .ready }
    (∀ q : Rps,
      (s.rps.thinning = false ∧ s.rps.queue.length + 1 < c.thinThreshold ∧ q = s.rps ∨
       s.rps.thinning = true ∧ c.resumeThreshold < s.rps.queue.length ∧ q = s.rps ∨
       s.rps.thinning = false ∧ c.thinThreshold ≤ s.rps.queue.length ∧
         q = Rps.plusEvent c s.time (.thinningOn s.rps.queue.length) { s.rps with thinning := true } ∨
       s.rps.thinning = true ∧ s.rps.queue.length ≤ c.resumeThreshold ∧ s.rps.queue.length + 2 < c.thinThreshold ∧
         q = Rps.plusEvent c s.time (.thinningOff s.rps.queue.length) { s.rps with thinning := false }) →
      exec (.configure es) s = .next ((base.withRps q).answered reply)) ∧
    (s.rps.thinning = false → s.rps.queue.length + 1 = c.thinThreshold →
      exec (.configure es) s = .next ((base.answered reply).withRps
        (Rps.plusEvent c s.time (.thinningOn c.thinThreshold) { s.rps.plus (.reply reply) with thinning := true })))

/-- The refusals of a CONFIGURE (R193, R194 step 1, R209). Which setting is named where several are wrong is the model's
choice: log entry 23. -/
def Obligations.ConfigureRefused : Prop :=
  (∀ es : List SettingEntry, refusedSetting es = none ↔
    (∃ n, given es 1 = some n ∧ 1 ≤ n ∧ n ≤ 15) ∧
    (∀ e ∈ es, 1 ≤ e.number.toNat ∧ e.number.toNat ≤ 29) ∧ (es.map (·.number)).Nodup ∧
    (∀ v, given es 12 = some v → 0 ≤ v ∧ v ≤ 2) ∧
    ∀ k ∈ [14, 16, 17], ∀ v, given es k = some v → v = 0 ∨ v = 1) ∧
  ∀ (s : State) (es : List SettingEntry), s.Takes (.configure es) → es.length ≤ 255 → s.FreeReport 1 →
    (s.cmu.device = .running → exec (.configure es) s = .next (s.answered ⟨1, .wrongState, 0, .nothing⟩)) ∧
    (s.cmu.device ≠ .running → ∀ k, refusedSetting es = some k →
      exec (.configure es) s = .next (s.answered ⟨1, .badValue, 5, .setting k⟩)) ∧
    (s.cmu.device ≠ .running → refusedSetting es = none → s.slc.membership = .leaving →
      exec (.configure es) s = .next (s.answered ⟨1, .busy, 2, .nothing⟩))

/-- LOAD_TABLE and READ_TABLE (R199, R201, R209): a table loaded reads back the contents given, and the first field outside its
range refuses it. The fields of each table, with their widths, signs and ranges, are those of R209 and of sections 5.1 and 11.7;
the layout of the REPLY is R215 and R216. -/
def Obligations.TablesLoadAndRead : Prop :=
  ∀ s : State, s.FreeReport 1 →
    (∀ (k z : Nat), s.Takes (.loadTable 0 (le 4 k ++ le 2 z)) → s.cmu.device ≠ .running → 1400000 ≤ k → k ≤ 1700000 →
      z ≤ 65535 → exec (.loadTable 0 (le 4 k ++ le 2 z)) s = .next (State.answered ⟨2, .ok, 0, .nothing⟩
        ((s.withRgu { s.rgu with range := ⟨k, z⟩ }).withCst { s.cst with sources := s.cst.sources.set 0 .command }))) ∧
    (∀ (code : Byte) (contents : List Byte), s.Takes (.loadTable code contents) → s.cmu.device ≠ .running →
      code.toNat ≤ 7 →
      -- width, signed, least value, greatest value
      let fields : List (Nat × Bool × Int × Int) := match code.toNat with
        | 0 => [(4, false, 1400000, 1700000), (2, false, 0, 65535)]
        | 1 => List.replicate 16 (2, true, -2048, 2047)
        | 2 | 3 => (1, false, 0, 16) ::
          (List.replicate (field contents 0 1) [(4, false, 1, 65536), (2, true, -32768, 32767)]).flatten
        | _ => [(1, false, 0, 1), (3, false, 0, 1048575), (3, true, -262144, 262144), (3, false, 1, 262144),
            (3, false, 1, 262144), (4, false, 256, 16777216), (4, false, 256, 16777216), (2, false, 0, 8191),
            (2, false, 0, 8191), (2, false, 1, 8192), (2, false, 1, 8192)]
      let good : Nat → Prop := fun j => ∀ f, fields[j]? = some f →
        let offset := ((fields.take j).map (·.1)).sum
        let value := if f.2.1 then fieldInt contents offset f.1 else (field contents offset f.1 : Int)
        f.2.2.1 ≤ value ∧ value ≤ f.2.2.2
      contents.length = (fields.map (·.1)).sum →
      ((∀ j, good j) → exec (.loadTable code contents) s =
        .next (State.answered ⟨2, .ok, 0, .nothing⟩
          ((s.setTable code.toNat (tableValues code.toNat contents)).withCst
            { s.cst with sources := s.cst.sources.setIfInBounds code.toNat .command })) ∧
        (s.setTable code.toNat (tableValues code.toNat contents)).tableContents code.toNat = contents) ∧
      ∀ j, ¬ good j → (∀ i, i < j → good i) →
        exec (.loadTable code contents) s = .next (s.answered ⟨2, .badValue, 5, .setting (j + 1)⟩)) ∧
    (∀ (code : Nat) (source : TableSource) (row : RowState) (contents : List Byte),
      (Record.reply ⟨3, .ok, 0, .table code source row contents⟩).HasLayout 7 (8 + contents.length)
        [(2, 1, 3), (3, 1, 0), (4, 1, 0), (5, 1, code),
         (6, 1, match source with | .store => 1 | .default => 2 | .command => 3),
         (7, 1, match row with | .good => 1 | .bad => 2 | .writing => 3)] ∧
      (Record.reply ⟨3, .ok, 0, .table code source row contents⟩).bytes.drop 8 = contents) ∧
    ∀ (code : Byte) (h : code.toNat < 8), s.Takes (.readTable code) → exec (.readTable code) s =
      .next (s.answered ⟨3, .ok, 0, .table code.toNat s.cst.sources[code.toNat] s.cst.rowStates[code.toNat]
        (s.tableContents code.toNat)⟩)

/-- CAL_STORE, WRITE_COMPLETION and CAL_RELOAD (R202, R203). The snapshot, the row's bytes and its check are in the model's
layout: log entry 25; the default of a camera row rests on log entry 9; that the REPLY of a CAL_RELOAD stands behind its
CAL_ROW_BAD is log entry 23 (DEDUCED). -/
def Obligations.RowsStoreAndReload : Prop :=
  ∀ (s : State) (row : Byte) (h : row.toNat < 8),
    (s.Takes (.calStore row) → s.cst.write = none → s.FreeReport 1 → exec (.calStore row) s =
      .next (State.answered ⟨4, .ok, 0, .nothing⟩ (s.withCst { s.cst with
        rows := s.cst.rows.set row.toNat .erased, rowStates := s.cst.rowStates.set row.toNat .writing
        write := some ⟨row.toNat, s.tableContents row.toNat, s.time + 400000⟩ }))) ∧
    (∀ contents e, s.powered = true → s.cst.write = some ⟨row.toNat, contents, e⟩ → e ≤ s.time → s.FreeReport 1 →
      exec .writeCompletion s = .next ((s.withCst { s.cst with
        rows := s.cst.rows.set row.toNat ⟨contents, some (crc16 contents)⟩
        rowStates := s.cst.rowStates.set row.toNat .good, write := none }).withRps
        (s.rps.plusEvent s.cmu.settings s.time (.calStored row.toNat)))) ∧
    (s.Takes (.calReload row) → s.cmu.device ≠ .running → s.cst.rowStates[row.toNat] ≠ .writing → s.FreeReport 2 →
      (s.cst.rows[row.toNat].passes row.toNat = true → exec (.calReload row) s =
        .next (State.answered ⟨5, .ok, 1, .nothing⟩
          ((s.setTable row.toNat (tableValues row.toNat s.cst.rows[row.toNat].contents)).withCst { s.cst with
            sources := s.cst.sources.set row.toNat .store, rowStates := s.cst.rowStates.set row.toNat .good }))) ∧
      (s.cst.rows[row.toNat].passes row.toNat = false → exec (.calReload row) s =
        .next (State.answered ⟨5, .ok, 2, .nothing⟩
          (((s.setTable row.toNat (tableValues row.toNat (defaultContents row.toNat))).withCst { s.cst with
            sources := s.cst.sources.set row.toNat .default, rowStates := s.cst.rowStates.set row.toNat .bad }).withRps
            (s.rps.plusEvent s.cmu.settings s.time (.calRowBad row.toNat .reload))))))

/-- PLAN_WRITE and PLAN_READ (R96, R199, R209) with the stored ranges of section 6.1, the layout of a plan record (R209), and
the layout of the REPLY (R215, R216). That bits 4 to 7 of a camera mask are ignored is the model's choice: log entry 42. -/
def Obligations.PlanWrittenAndRead : Prop :=
  let inRange : PlanRecord → Prop := fun r => match r with
    | .segment g => g.azStart < 2 ^ 20 ∧ g.azEnd < 2 ^ 20 ∧ -524288 ≤ g.step ∧ g.step ≤ 524287 ∧ g.mFrom < 2 ^ 20 ∧
        g.mTo < 2 ^ 20 ∧ 1 ≤ g.divisor ∧ g.divisor ≤ 16 ∧ g.interval ≤ 1000 ∧ 1 ≤ g.retryLimit ∧ g.retryLimit ≤ 15
    | .photo azimuth _ => azimuth < 2 ^ 20
    | .repeatFrom target count => target ≤ 63 ∧ count ≤ 255
    | .planEnd => True
  let refused : List Byte → Prop := fun r => match field r 0 1 with
    | 1 => 2 ^ 20 ≤ field r 1 3 ∨ 2 ^ 20 ≤ field r 4 3 ∨ fieldInt r 7 3 < -524288 ∨ 524287 < fieldInt r 7 3 ∨
        2 ^ 20 ≤ field r 10 3 ∨ 2 ^ 20 ≤ field r 13 3 ∨ field r 16 1 = 0 ∨ 16 < field r 16 1 ∨ field r 17 1 = 0 ∨
        4 < field r 17 1 ∨ 1 < field r 18 1 ∨ 1000 < field r 19 2 ∨ field r 22 1 = 0 ∨ 15 < field r 22 1
    | 2 => 2 ^ 20 ≤ field r 1 3
    | 3 => 63 < field r 1 1
    | 4 => False
    | _ => True
  (∀ s : State, s.FreeReport 1 →
    (∀ (start : Byte) (rs : List PlanRecord), s.Takes (.planWrite start (rs.map (·.bytes))) → s.cmu.device ≠ .running →
      rs ≠ [] → start.toNat + rs.length ≤ 64 → (∀ r ∈ rs, inRange r) →
      ∃ plan : Vector PlanRecord 64,
        exec (.planWrite start (rs.map (·.bytes))) s = .next (State.answered ⟨6, .ok, 0, .nothing⟩
          (s.withPwk { s.pwk with plan := plan })) ∧
        ∀ i (h : i < 64), plan[i] = if start.toNat ≤ i then rs.getD (i - start.toNat) s.pwk.plan[i] else s.pwk.plan[i]) ∧
    (∀ (start : Byte) (records : List (List Byte)), s.Takes (.planWrite start records) → s.cmu.device ≠ .running →
      records.length ≤ 255 → (∀ r ∈ records, r.length = 23) →
      ((records = [] ∨ 64 < start.toNat + records.length ∨ ∃ r ∈ records, refused r) →
        exec (.planWrite start records) s = .next (s.answered ⟨6, .badValue, 6, .nothing⟩)) ∧
      (records ≠ [] → start.toNat + records.length ≤ 64 → (∀ r ∈ records, ¬ refused r) →
        ∃ plan, exec (.planWrite start records) s = .next (State.answered ⟨6, .ok, 0, .nothing⟩
          (s.withPwk { s.pwk with plan := plan })))) ∧
    ∀ start count : Byte, s.Takes (.planRead start count) → 1 ≤ count.toNat → start.toNat + count.toNat ≤ 64 →
      exec (.planRead start count) s = .next (s.answered ⟨7, .ok, 0, .plan start.toNat
        ((s.pwk.plan.toList.drop start.toNat).take count.toNat)⟩)) ∧
  (∀ r : PlanRecord, inRange r → r.bytes.length = 23 ∧
    ∀ f ∈ ((match r with
      | .segment g => [(0, 1, 1), (1, 3, g.azStart), (4, 3, g.azEnd), (7, 3, (g.step % 2 ^ 24).toNat), (10, 3, g.mFrom),
          (13, 3, g.mTo), (16, 1, g.divisor),
          (17, 1, match g.mode with | .first => 1 | .last => 2 | .strongest => 3 | .all => 4), (18, 1, g.watch.toNat),
          (19, 2, g.interval), (21, 1, g.mask.toNat), (22, 1, g.retryLimit)]
      | .photo azimuth mask => [(0, 1, 2), (1, 3, azimuth), (4, 1, mask.toNat), (5, 18, 0)]
      | .repeatFrom target count => [(0, 1, 3), (1, 1, target), (2, 1, count), (3, 20, 0)]
      | .planEnd => [(0, 1, 4), (1, 22, 0)]) : List (Nat × Nat × Nat)), field r.bytes f.1 f.2.1 = f.2.2) ∧
  ∀ (start : Nat) (rs : List PlanRecord),
    (Record.reply ⟨7, .ok, 0, .plan start rs⟩).HasLayout 7 (7 + 23 * rs.length)
      [(2, 1, 7), (3, 1, 0), (4, 1, 0), (5, 1, start), (6, 1, rs.length)] ∧
    ∀ (i : Nat) (h : i < rs.length),
      slice (Record.reply ⟨7, .ok, 0, .plan start rs⟩).bytes (7 + 23 * i) 23 = rs[i].bytes

/-- The beginning of a run (R21, R48, R98, R127, R134, R146, R196). That the current record index becomes the START index is the
model's choice: log entry 17. -/
def Obligations.RunBegins : Prop :=
  ∀ (s : State) (index : Byte) (n : Nat), s.Takes (.start index) → s.cmu.device = .ready → index.toNat ≤ 63 →
    s.pwk.validate s.cmu.settings.blindHalfWidth index.toNat = none → s.slc.membership ≠ .leaving → s.slc.tx = .idle →
    s.slc.anyPending = false → s.cmu.settings.station = some n → s.FreeReport 1 →
    ∃ t, exec (.start index) s = .next t ∧ t.cmu = { s.cmu with
        device := .running, receiver := none, laneGap := none, ready := true, reply := none } ∧
      t.emt = { s.emt with startTime := some s.time, generator := some (257 * n), tagCounter := 0, context := none
                           schedule := some ⟨s.time + intervalOf s.cmu.settings (257 * n), 0⟩, keptFired := none } ∧
      t.rgu = { s.rgu with effectiveScale := ((s.rgu.range.scale : Int) +
        roundDiv (s.rgu.range.scale * s.cmu.settings.ppm) 1000000).toNat } ∧
      t.pwk = { s.pwk with
        armed := true, recordIndex := index.toNat, saved := none, pausePending := false, ownHold := none
        counters := .replicate 64 none, lineCounter := 1, attemptNumber := 1 } ∧
      t.slc.membership = .joining ∧ t.slc.tx = .wait ∧ t.slc.pendingBeacon = true ∧ t.slc.pendingHold = false ∧
      t.slc.pendingQuiet = false ∧ t.slc.counters = ⟨0, 0, 0, 0, 0⟩ ∧ t.slc.jamReported = false ∧
      (∃ x, x = (1021 * n + s.time % 65536) % 65536 ∧ t.slc.generator = some (lcg x) ∧ t.slc.backoff = x * 32 / 65536 ∧
        (s.slc.carrierSense = false → t.slc.access = some (s.time + (6400 + 1600 * (x * 32 / 65536))))) ∧
      t.pru = { s.pru with joinTimer := some (s.time + 30000000) } ∧
      t.rps = s.rps.plus (.reply ⟨8, .ok, 0, .started s.time .joining⟩) ∧
      t.anu = s.anu ∧ t.pta = s.pta ∧ t.phc = s.phc ∧ t.cst = s.cst

/-- STOP (R24, R33, R46, R64, R119, R133, R134, R149, R197) with no shot open: an attempt open or ending abandoned (R37, R119), a
photo in progress aborted (R90), the leave begun, or left as it is where membership is LEAVING. What PWK keeps beyond R119 is log
entry 37; the order of the end notice and of the end of run is free, log entry 5; the REPLY behind the records is log entry 23
(DEDUCED), LINE_ABANDONED before the photographs is log entry 28 (DEDUCED), and the aborted length in whole microseconds is log
entry 20. -/
def Obligations.RunStops : Prop :=
  ∀ (s : State) (k : Nat) (made : List Photo) (abandoned : List Record), s.Takes .stop → s.cmu.device = .running →
    (s.slc.membership = .joining ∨ s.slc.membership = .live ∨ s.slc.membership = .leaving) → s.rgu.openShots = [] →
    s.phc.Abortable k → made = (if s.phc.sequence = .idle then [] else s.abortedEntries k) →
    s.StopRecord .stop abandoned → s.FreeReport 6 →
    ∃ t, exec .stop s = .next t ∧ t.cmu = { s.cmu with
        device := .ready, receiver := none, laneGap := none, ready := true, reply := none } ∧
      t.rps.queue = s.rps.queue ++ abandoned ++ made.map .photo ++ [.reply ⟨9, .ok, 0, .nothing⟩] ∧
      t.emt = { s.emt with
        startTime := none, schedule := none, generator := none, context := none, emit := none
        keptFired := if s.attemptOpen then none else s.emt.context.map (·.fired) } ∧
      t.rgu = { s.rgu with record := none } ∧ t.pta = ⟨none, none, none, none⟩ ∧
      t.pwk = { s.pwk with
        state := .idle, armed := false, pausePending := false, ownHold := none, saved := none, segment := none
        counters := .replicate 64 none, attempt := none, slew := { s.pwk.slew with faultTimer := none }
        attemptLimit := none, deferred := none, outgoing := if s.pwk.attempt = none then s.pwk.outgoing else none } ∧
      (s.slc.membership = .leaving → t.slc = { s.slc with rejoin := false }) ∧
      (∀ v, s.slc.membership ≠ .leaving → s.slc.tx = .idle → s.slc.anyPending = false → s.slc.generator = some v →
        t.slc = { s.slc with
          membership := .leaving, pendingBeacon := true, pendingHold := false, pendingQuiet := false, beaconTimer := none
          leaveTimer := some (s.time + 5000000), rejoin := false, assembler := .hunt false, byteGap := none, tx := .wait
          generator := some (lcg v), backoff := v * 32 / 65536
          access := if s.slc.carrierSense then none else some (s.time + (6400 + 1600 * (v * 32 / 65536)))
          jam := if s.slc.carrierSense then some (s.time + 20000000) else none }) ∧
      t.pru = ⟨.replicate 15 none, none⟩ ∧ t.anu = s.anu ∧ s.phc.EndedBy k made t.phc ∧ t.cst = s.cst

/-- PAUSE and CONTINUE (R114, R115, R118). -/
def Obligations.PausesAndContinues : Prop :=
  ∀ s : State, s.cmu.device = .running → s.FreeReport 1 →
    (s.Takes .pause →
      (s.pwk.state = .lineWait → exec .pause s = .next (State.answered ⟨10, .ok, 0, .nothing⟩
        (s.withPwk { s.pwk with state := .paused }))) ∧
      (s.pwk.state = .paused → exec .pause s = .next (s.answered ⟨10, .ok, 0, .nothing⟩)) ∧
      (s.pwk.state ≠ .lineWait → s.pwk.state ≠ .paused → exec .pause s = .next (State.answered ⟨10, .ok, 0, .nothing⟩
        (s.withPwk { s.pwk with pausePending := true })))) ∧
    (s.Takes .continueRun →
      (s.pwk.state = .paused → s.pwk.deferred = none → exec .continueRun s = .next
        (State.answered ⟨11, .ok, 0, .nothing⟩ (s.withPwk { s.pwk with state := .lineWait }))) ∧
      (∀ hit, s.pwk.state = .halted → s.pwk.ownHold = some hit →
        (s.time < hit + 100000000 * s.cmu.settings.holdMinimum →
          exec .continueRun s = .next (s.answered ⟨11, .tooEarly, 0, .nothing⟩)) ∧
        (hit + 100000000 * s.cmu.settings.holdMinimum ≤ s.time → s.pwk.deferred = none →
          exec .continueRun s = .next (State.answered ⟨11, .ok, 0, .nothing⟩
            ((s.withPwk { s.pwk with
              state := if s.pwk.pausePending then .paused else .lineWait, pausePending := false, ownHold := none }).withSlc
              (if s.cmu.settings.announceHolds then (s.slc.request s.time .hold).request s.time .beacon else s.slc))))) ∧
      (s.pwk.state ≠ .paused → s.pwk.state ≠ .halted →
        (s.pwk.pausePending = true → exec .continueRun s = .next (State.answered ⟨11, .ok, 0, .nothing⟩
          (s.withPwk { s.pwk with pausePending := false }))) ∧
        (s.pwk.pausePending = false → exec .continueRun s = .next (s.answered ⟨11, .wrongState, 0, .nothing⟩))))

/-- The read commands (R120, R151, R192, R199), the layouts of their replies (R215, R216), and the entry that brings the
occupancy to the thin threshold (R179). That a hold end past 2^48 - 1, which local time never reaches (R20), is sent modulo 2^48
is the model's choice: log entry 41. -/
def Obligations.ReadBackAnswered : Prop :=
  let membership : Membership → Nat := fun m => match m with
    | .offline => 0 | .joining => 1 | .live => 2 | .leaving => 3 | .duplicate => 4
  (∀ (s : State) (report : StatusReport),
    report = ⟨s.cmu.device, s.cmu.settings.station, s.slc.membership, s.pwk.state, s.pwk.armed, s.pwk.pausePending,
      if s.pwk.state = .halted then s.pwk.ownHold.map (· + 100000000 * s.cmu.settings.holdMinimum) else none,
      s.pwk.recordIndex, s.pwk.lineCounter, s.pwk.attemptNumber, (s.pwk.segment.map (·.counted)).getD 0, s.anu.monitor,
      s.rps.queue.length, s.rps.thinning, s.cst.write.map (·.row), s.cst.cause, s.cst.interruptedRow, s.cmu.laneDiscards⟩ →
    (s.Takes .status → s.FreeReport 1 → exec .status s = .next (s.answered ⟨12, .ok, 0, .status report⟩)) ∧
    (s.Takes .status → s.rps.queue.length = 2048 → exec .status s = .next (s.withCmu { s.cmu with
      receiver := none, laneGap := none, ready := false, reply := some ⟨12, .ok, 0, .status report⟩ })) ∧
    (s.Takes .status → s.rps.events = [] → s.rps.thinning = false → s.rps.queue.length + 2 ≤ 2048 →
      s.rps.queue.length + 1 = s.cmu.settings.thinThreshold → ∃ t, exec .status s = .next t ∧
        t.rps = Rps.plusEvent s.cmu.settings s.time (.thinningOn s.cmu.settings.thinThreshold)
          { s.rps.plus (.reply ⟨12, .ok, 0, .status report⟩) with thinning := true }) ∧
    (s.Takes .peers → s.FreeReport 1 → exec .peers s = .next (s.answered ⟨13, .ok, 0,
      .peers s.cmu.settings.station s.slc.membership
        (if s.slc.membership = .joining ∨ s.slc.membership = .live then s.pru.entries.map fun e =>
          ⟨e.1, e.2.seen, (s.time - e.2.lastHeard) / 100000, e.2.firing, e.2.hold, e.2.grantedToMe,
            e.2.window.map fun w => (w - s.time) / 100000⟩ else []) s.slc.counters⟩)) ∧
    (s.Takes .photos → s.FreeReport 1 → exec .photos s = .next (s.answered ⟨14, .ok, 0,
      .photos s.phc.catalogue s.phc.nextNumber s.phc.sequence⟩))) ∧
  (∀ r : Reply, (Record.reply r).bytes = slice (Record.reply r).bytes 0 2 ++ [BitVec.ofNat 8 r.code,
    match r.outcome with | .ok => 0 | .wrongState => 1 | .badValue => 2 | .busy => 3 | .tooEarly => 4 | .badPlan => 5,
    BitVec.ofNat 8 r.detail] ++ r.args.bytes) ∧
  (∀ r : StatusReport, (Record.reply ⟨12, .ok, 0, .status r⟩).HasLayout 7 35
    ([(0, 1, match r.device with | .unconfigured => 1 | .ready => 2 | .running => 3), (1, 1, r.station.getD 0),
      (2, 1, membership r.membership),
      (3, 1, match r.walker with
        | .idle => 0 | .slewing => 1 | .lineWait => 2 | .line => 3 | .photo => 4 | .paused => 5 | .halted => 6
        | .faulted => 7),
      (4, 1, r.armed.toNat + 2 * r.pausePending.toNat + 4 * r.holdEnd.isSome.toNat), (5, 1, r.recordIndex),
      (6, 4, r.lineCounter), (10, 2, r.attempt), (12, 1, r.counted), (13, 6, r.holdEnd.getD 0),
      (19, 1, match r.monitor with | .spinup => 0 | .ok => 1 | .fault => 2), (20, 2, r.occupancy),
      (22, 1, r.thinning.toNat), (23, 1, r.writeRow.isSome.toNat), (24, 1, r.writeRow.getD 0),
      (25, 1, match r.cause with | .power => 1 | .line => 2 | .command => 3), (26, 1, r.interruptedRow.isSome.toNat),
      (27, 1, r.interruptedRow.getD 0), (28, 2, r.laneDiscards)].map fun f => (5 + f.1, f.2.1, f.2.2))) ∧
  (∀ (station : Option Nat) (m : Membership) (ps : List PeerReport) (d : DiscardCounters),
    (Record.reply ⟨13, .ok, 0, .peers station m ps d⟩).HasLayout 7 (18 + 7 * ps.length)
      ([(5, 1, station.getD 0), (6, 1, membership m), (7, 1, ps.length), (8 + 7 * ps.length, 2, d.broken),
        (10 + 7 * ps.length, 2, d.check), (12 + 7 * ps.length, 2, d.station), (14 + 7 * ps.length, 2, d.kind),
        (16 + 7 * ps.length, 2, d.form)] ++ ps.zipIdx.flatMap fun p =>
        [(8 + 7 * p.2, 1, p.1.station), (9 + 7 * p.2, 1, membership p.1.seen), (10 + 7 * p.2, 2, p.1.sinceHeard),
         (12 + 7 * p.2, 1, p.1.firing.toNat + 2 * p.1.hold.toNat + 4 * p.1.grantedToMe.toNat +
           8 * p.1.windowLeft.isSome.toNat), (13 + 7 * p.2, 2, p.1.windowLeft.getD 0)])) ∧
  ∀ (ps : List Photo) (next : Option Nat) (q : PhotoState), (Record.reply ⟨14, .ok, 0, .photos ps next q⟩).bytes.drop 5 =
    BitVec.ofNat 8 ps.length :: ps.flatMap (fun p => (Record.photo p).bytes.drop 2) ++ le 4 (next.getD 0) ++
      ([match q with | .idle => 0 | .settle => 1 | .grantWait => 2 | .expose => 3] : List Byte)

/-- Refusals (R193, R196, R197, R199, R201 to R203), and the validation that refuses a START (R97): a walk of the plan from the
START index visits records in form one after another, each REPEAT jumping on its first visit alone, up to the first record at
fault, to an END, or past index 63. -/
def Obligations.CommandsRefused : Prop :=
  (∀ (x : Pwk) (b index last : Nat) (path : List Nat), index ≤ 63 → path.head? = some index → path.getLast? = some last →
    let segmentValid : Segment → Prop := fun g => g.step ≠ 0 ∧ b < g.mFrom ∧ g.mFrom ≤ g.mTo ∧ g.mTo < 2 ^ 20 - b
    (∀ k i j, path[k]? = some i → path[k + 1]? = some j → i ≤ 63 ∧ match x.record i with
      | .segment g => segmentValid g ∧ j = i + 1
      | .photo _ _ => j = i + 1
      | .repeatFrom target count => target < i ∧ 0 < count ∧ j = if i ∈ path.take k then i + 1 else target
      | .planEnd => False) →
    (last = 64 → x.validate b index = some 63) ∧
    (last ≤ 63 → match x.record last with
      | .segment g => ¬ segmentValid g → x.validate b index = some last
      | .photo _ _ => True
      | .repeatFrom target count => last ≤ target ∨ count = 0 → x.validate b index = some last
      | .planEnd => x.validate b index = none)) ∧
  ∀ s : State, s.FreeReport 1 →
    (s.cmu.device = .running →
      (∀ code contents, s.Takes (.loadTable code contents) → operandsFit (.loadTable code contents) = true →
        exec (.loadTable code contents) s = .next (s.answered ⟨2, .wrongState, 0, .nothing⟩)) ∧
      (∀ row, s.Takes (.calReload row) → exec (.calReload row) s = .next (s.answered ⟨5, .wrongState, 0, .nothing⟩)) ∧
      (∀ start records, s.Takes (.planWrite start records) → operandsFit (.planWrite start records) = true →
        exec (.planWrite start records) s = .next (s.answered ⟨6, .wrongState, 0, .nothing⟩))) ∧
    (s.cmu.device ≠ .ready → ∀ index, s.Takes (.start index) →
      exec (.start index) s = .next (s.answered ⟨8, .wrongState, 0, .nothing⟩)) ∧
    (s.cmu.device ≠ .running →
      (s.Takes .stop → exec .stop s = .next (s.answered ⟨9, .wrongState, 0, .nothing⟩)) ∧
      (s.Takes .pause → exec .pause s = .next (s.answered ⟨10, .wrongState, 0, .nothing⟩)) ∧
      (s.Takes .continueRun → exec .continueRun s = .next (s.answered ⟨11, .wrongState, 0, .nothing⟩)) ∧
      (∀ code contents, 7 < code.toNat → s.Takes (.loadTable code contents) →
        exec (.loadTable code contents) s = .next (s.answered ⟨2, .badValue, 6, .nothing⟩)) ∧
      ∀ row : Byte, s.Takes (.calReload row) →
        (7 < row.toNat → exec (.calReload row) s = .next (s.answered ⟨5, .badValue, 6, .nothing⟩)) ∧
        ∀ h : row.toNat < 8, s.cst.rowStates[row.toNat] = .writing →
          exec (.calReload row) s = .next (s.answered ⟨5, .busy, 1, .nothing⟩)) ∧
    (∀ code : Byte, 7 < code.toNat → s.Takes (.readTable code) →
      exec (.readTable code) s = .next (s.answered ⟨3, .badValue, 6, .nothing⟩)) ∧
    (∀ row : Byte, s.Takes (.calStore row) →
      (7 < row.toNat → exec (.calStore row) s = .next (s.answered ⟨4, .badValue, 6, .nothing⟩)) ∧
      (row.toNat ≤ 7 → s.cst.write.isSome = true →
        exec (.calStore row) s = .next (s.answered ⟨4, .busy, 1, .nothing⟩))) ∧
    (∀ start count : Byte, s.Takes (.planRead start count) → (count = 0 ∨ 64 < start.toNat + count.toNat) →
      exec (.planRead start count) s = .next (s.answered ⟨7, .badValue, 6, .nothing⟩)) ∧
    (s.cmu.device = .ready → ∀ index : Byte, s.Takes (.start index) →
      (63 < index.toNat → exec (.start index) s = .next (s.answered ⟨8, .badValue, 6, .nothing⟩)) ∧
      ∀ i, index.toNat ≤ 63 → s.pwk.validate s.cmu.settings.blindHalfWidth index.toNat = some i →
        exec (.start index) s = .next (s.answered ⟨8, .badPlan, 0, .planIndex i⟩))

/-- Lane faults (R190, R191, R209). That a faulty frame is one row, taken or dropped whole or as the rest of a beginning the
receiver holds, is the model's choice: log entry 11. -/
def Obligations.FaultyFramesAnswered : Prop :=
  ∀ s : State, s.powered = true →
    (∀ (frame : List Byte) (d : Nat), frame.length = 5 + announcedLength frame →
      let code := field frame 0 1
      let n := frame.length - 5
      let segments := field frame 4 1
      let contents := match field frame 3 1 with | 0 => 6 | 1 => 32 | 2 => 1 + 6 * segments | 3 => 1 + 6 * segments | _ => 29
      let unfit := match code with
        | 1 => n = 0 ∨ n ≠ 1 + 5 * field frame 3 1
        | 2 => n = 0 ∨ (field frame 3 1 ≤ 7 ∧ (n = 1 ∨ n ≠ 1 + contents))
        | 6 => n < 2 ∨ n ≠ 2 + 23 * field frame 4 1
        | 7 => n ≠ 2
        | 3 | 4 | 5 | 8 => n ≠ 1
        | _ => n ≠ 0
      ((field frame (frame.length - 2) 2 ≠ (crc16 (frame.take (frame.length - 2))).toNat ∧ d = 2) ∨
        (field frame (frame.length - 2) 2 = (crc16 (frame.take (frame.length - 2))).toNat ∧
          (code = 0 ∨ 15 < code) ∧ d = 3) ∨
        (field frame (frame.length - 2) 2 = (crc16 (frame.take (frame.length - 2))).toNat ∧ 1 ≤ code ∧ code ≤ 15 ∧
          unfit ∧ d = 4)) →
      (s.takesFrame frame = true → s.FreeReport 1 →
        exec (.badFrame frame) s = .next (s.answered ⟨code, .badValue, d, .nothing⟩)) ∧
      (s.cmu.receiver = none → s.cmu.ready = false → exec (.badFrame frame) s =
        .next (s.withCmu { s.cmu with laneDiscards := min (s.cmu.laneDiscards + frame.length) 65535 }))) ∧
    (∀ held e, s.cmu.receiver = some held → s.cmu.laneGap = some e → e ≤ s.time → s.FreeReport 1 →
      exec .laneGapExpiry s = .next (s.answered
        ⟨if 3 ≤ held.length then field held 0 1 else 0, .badValue, 1, .nothing⟩)) ∧
    (s.cmu.receiver = none → s.cmu.ready = false → exec .laneByteDropped s =
      .next (s.withCmu { s.cmu with laneDiscards := min (s.cmu.laneDiscards + 1) 65535 }))

/-- The lane, byte by byte (R190, R208, R209). That a command row is its whole frame is the model's choice: log entry 11. RESET
is left out, since the levels that a reset clocked byte by byte finds are free: log entry 7. -/
def Obligations.LaneBytesMakeCommand : Prop :=
  (∀ (s : State) (i : Instr), s.powered = true → s.cmu.receiver = none → s.cmu.ready = true → i.wellFormed = true →
    1 ≤ commandCode i → commandCode i ≤ 14 →
    execAll ((encodeFrame i).map .laneByteReceived) s = exec i s) ∧
  ∀ (s : State) (b : Byte), s.powered = true →
    (s.cmu.receiver = none → s.cmu.ready = true → exec (.laneByteReceived b) s = .next (s.withCmu { s.cmu with
      receiver := some [b], laneGap := some (s.time + 100000), ready := false })) ∧
    (∀ held, s.cmu.receiver = some held → held.length < 4 → exec (.laneByteReceived b) s = .next (s.withCmu { s.cmu with
      receiver := some (held ++ [b]), laneGap := some (s.time + 100000), ready := false }))

/-- The assembler, byte by byte (R135, R136, R217, R218). That SITE_FRAME_RECEIVED is the arrival of a frame's rest is the
model's choice: log entry 12. -/
def Obligations.SiteBytesMakeFrame : Prop :=
  ∀ (s : State) (p : Bool) (station kind : Byte) (payload : List Byte) (check : Word16), s.powered = true →
    s.slc.listening = true → s.slc.assembler = .hunt p → payload.length ≤ 17 →
    execAll (([0x55, 0x55, 0xD3] ++ [station, kind, BitVec.ofNat 8 payload.length] ++ payload ++
      [BitVec.ofNat 8 check.toNat, BitVec.ofNat 8 (check.toNat / 256)]).map (.siteByteReceived · true)) s =
      exec (.siteFrameReceived station kind payload check) s

/-- Frames and their judgement agree (R191, R207 to R209). -/
def Obligations.FrameRoundTrip : Prop :=
  ∀ (levels : InputLevels) (i : Instr), i.wellFormed = true → 1 ≤ commandCode i →
    frameComplete (encodeFrame i) = true ∧ (encodeFrame i).length = 5 + announcedLength (encodeFrame i) ∧
    ((∀ l, i ≠ .reset l) → judgeFrame levels (encodeFrame i) = .ok i) ∧
    ∀ l, i = .reset l → judgeFrame levels (encodeFrame i) = .ok (.reset levels)

/-- What every step keeps: the report stream's bounds (R174, R175, R181), local time within 48 bits (R20), at most two open
shots (R41), at most 64 entries in the catalogue (R89), and the peers' timers within their limits (R141, R154). -/
def Obligations.ReportBoundsKept : Prop :=
  ∀ s t : State, step s = .next t →
    (s.ReportSound → t.ReportSound) ∧ (s.TimeSound → t.TimeSound) ∧ (s.rgu.Sound → t.rgu.Sound) ∧
    (s.phc.Sound → t.phc.Sound) ∧ (s.TimeSound → s.pru.Bounded s.time → t.pru.Bounded t.time)

/-- The reset state is within the bounds that every step keeps (R20, R41, R89, R138, R174, R187). -/
def Obligations.ReportBoundsAtReset : Prop :=
  State.reset.ReportSound ∧ State.reset.TimeSound ∧ State.reset.rgu.Sound ∧ State.reset.phc.Sound ∧
    State.reset.pru.Bounded State.reset.time
end

