-- ==== Sys2Proof/Laws/Bytes.lean ====
section
/-! SUPPORT. Little-endian fields and echoes: what is written is read back (R207, R219), and the order of returns (R54). -/

namespace Sys2Proof.Machine

/-- A number that fits its width is read back (R207). -/
theorem unle_le (w n : Nat) (h : n < 256 ^ w) : unle (le w n) = n := by
  induction w generalizing n with
  | zero => simp at h; subst h; rfl
  | succ w ih =>
    rw [le, unle, ih (n / 256) (by rw [pow_succ] at h; omega)]
    simp; omega

/-- A field has its width. -/
theorem le_length (w n : Nat) : (le w n).length = w := by
  induction w generalizing n with
  | zero => rfl
  | succ w ih => rw [le, List.length_cons, ih]

/-- Four bytes for each echo (R219). -/
theorem echoes_length (es : List Echo) : (es.flatMap fun x => le 4 (x.tof + 1048576 * x.amplitude)).length = 4 * es.length := by
  induction es with
  | nil => rfl
  | cons x xs ih => rw [List.flatMap_cons, List.length_append, le_length, ih, List.length_cons]; ring

/-- Echoes in their ranges are read back (R219). -/
theorem parseEchoes_bytes (es : List Echo) (h : ∀ x ∈ es, x.tof < 2 ^ 20 ∧ x.amplitude < 4096) (rest : List Byte) :
   parseEchoes es.length ((es.flatMap fun x => le 4 (x.tof + 1048576 * x.amplitude)) ++ rest) = es := by
  induction es with
  | nil => rfl
  | cons x xs ih =>
    rw [List.length_cons, List.flatMap_cons, parseEchoes, List.append_assoc]
    have h1 := h x (by simp)
    rw [List.take_left' (le_length _ _), List.drop_left' (le_length _ _), ih (fun y hy => h y (by simp [hy]))]
    unfold parseEcho
    rw [unle_le _ _ (by norm_num; omega)]
    congr 1
    cases x; simp at h1 ⊢; omega

/-- An inserted return follows those of its range (R54). -/
theorem insertReturn_filter (r : Return) (l : List Return) (k : Nat) :
  (insertReturn r l).filter (fun x => x.range == k) = (l ++ [r]).filter (fun x => x.range == k) ∨ ¬ l.Pairwise (fun x y => x.range ≤ y.range) := by
  induction l with
  | nil => left; rfl
  | cons x xs ih =>
    by_cases hs : (x :: xs).Pairwise (fun x y => x.range ≤ y.range)
    · left
      rw [List.pairwise_cons] at hs
      unfold insertReturn
      split
      · rename_i hlt
        by_cases hk : r.range = k
        · have hx : ∀ y ∈ x :: xs, ¬ (y.range = k) := by
            intro y hy; rcases List.mem_cons.1 hy with rfl | hy
            · omega
            · have := hs.1 y hy; omega
          have e : (x :: xs).filter (fun x => x.range == k) = [] := by
            rw [List.filter_eq_nil_iff]; intro y hy; simpa using hx y hy
          rw [List.filter_append, List.filter_cons, e]; simp [List.filter_cons]
        · rw [List.filter_append, List.filter_cons]; simp [hk]
      · have := ih.resolve_right (fun h => h hs.2)
        rw [List.filter_cons, this, List.cons_append, List.filter_cons]
    · right; exact hs

/-- Insertion keeps the order of ranges, and every lower bound (R54). -/
theorem insertReturn_sorted (r : Return) (l : List Return) (h : l.Pairwise (fun x y => x.range ≤ y.range)) : (insertReturn r l).Pairwise (fun x y => x.range ≤ y.range) ∧ ∀ k, (∀ x ∈ l, k ≤ x.range) → k ≤ r.range → ∀ x ∈ insertReturn r l, k ≤ x.range := by
  induction l with
  | nil => simp [insertReturn]
  | cons x xs ih =>
    rw [List.pairwise_cons] at h
    obtain ⟨i1, i2⟩ := ih h.2
    unfold insertReturn
    split
    · refine ⟨?_, ?_⟩
      · rw [List.pairwise_cons]; refine ⟨?_, List.pairwise_cons.2 h⟩
        intro y hy; rcases List.mem_cons.1 hy with rfl | hy
        · omega
        · have := h.1 y hy; omega
      · intro k hk hr y hy; rcases List.mem_cons.1 hy with rfl | hy
        · exact hr
        · exact hk y hy
    · refine ⟨?_, ?_⟩
      · rw [List.pairwise_cons]; exact ⟨i2 x.range h.1 (by omega), i1⟩
      · intro k hk hr y hy; rcases List.mem_cons.1 hy with rfl | hy
        · exact hk y (by simp)
        · exact i2 k (fun z hz => hk z (by simp [hz])) hr y hy

/-- Returns inserted one by one are in order, and those of one range keep their order (R54). -/
theorem foldl_insertReturn (l acc : List Return) (h : acc.Pairwise (fun x y => x.range ≤ y.range)) :
  (l.foldl (fun acc r => insertReturn r acc) acc).Pairwise (fun x y => x.range ≤ y.range) ∧ ∀ k : Nat, (l.foldl (fun acc r => insertReturn r acc) acc).filter (fun x => x.range == k) = (acc ++ l).filter (fun x => x.range == k) := by
  induction l generalizing acc with
  | nil => exact ⟨h, by simp⟩
  | cons r l ih =>
    obtain ⟨h1, h2⟩ := ih (insertReturn r acc) (insertReturn_sorted r acc h).1
    refine ⟨h1, fun k => ?_⟩
    rw [List.foldl_cons, h2 k, List.filter_append, (insertReturn_filter r acc k).resolve_right (fun hh => hh h), ← List.filter_append]
    simp

/-- A byte for each number of a list. -/
theorem flatMap_le_one (l : List Nat) : l.flatMap (le 1) = l.map (BitVec.ofNat 8) := by
  induction l with
  | nil => rfl
  | cons x xs ih => rw [List.flatMap_cons, ih]; rfl

end Sys2Proof.Machine
end

