-- ==== Sys2Proof/Laws/State.lean ====
section
/-! SUPPORT. One lemma for each field of State and each update of one block, true by unfolding, so that no proof unfolds a
record update. -/

namespace Sys2Proof.Machine

/-! ## State.withTime -/

@[simp] theorem State.withTime_powered (s : State) (x : Nat) : (s.withTime x).powered = s.powered := rfl
@[simp] theorem State.withTime_time (s : State) (x : Nat) : (s.withTime x).time = x := rfl
@[simp] theorem State.withTime_anu (s : State) (x : Nat) : (s.withTime x).anu = s.anu := rfl
@[simp] theorem State.withTime_emt (s : State) (x : Nat) : (s.withTime x).emt = s.emt := rfl
@[simp] theorem State.withTime_rgu (s : State) (x : Nat) : (s.withTime x).rgu = s.rgu := rfl
@[simp] theorem State.withTime_pta (s : State) (x : Nat) : (s.withTime x).pta = s.pta := rfl
@[simp] theorem State.withTime_phc (s : State) (x : Nat) : (s.withTime x).phc = s.phc := rfl
@[simp] theorem State.withTime_pwk (s : State) (x : Nat) : (s.withTime x).pwk = s.pwk := rfl
@[simp] theorem State.withTime_slc (s : State) (x : Nat) : (s.withTime x).slc = s.slc := rfl
@[simp] theorem State.withTime_pru (s : State) (x : Nat) : (s.withTime x).pru = s.pru := rfl
@[simp] theorem State.withTime_rps (s : State) (x : Nat) : (s.withTime x).rps = s.rps := rfl
@[simp] theorem State.withTime_cmu (s : State) (x : Nat) : (s.withTime x).cmu = s.cmu := rfl
@[simp] theorem State.withTime_cst (s : State) (x : Nat) : (s.withTime x).cst = s.cst := rfl
@[simp] theorem State.withTime_draws (s : State) (x : Nat) : (s.withTime x).draws = s.draws := rfl
@[simp] theorem State.withTime_pending (s : State) (x : Nat) : (s.withTime x).pending = s.pending := rfl
@[simp] theorem State.withTime_withTime (s : State) (x y : Nat) : (s.withTime x).withTime y = s.withTime y := rfl
@[simp] theorem State.withTime_self (s : State) : s.withTime s.time = s := rfl

/-! ## State.withAnu -/

@[simp] theorem State.withAnu_powered (s : State) (x : Anu) : (s.withAnu x).powered = s.powered := rfl
@[simp] theorem State.withAnu_time (s : State) (x : Anu) : (s.withAnu x).time = s.time := rfl
@[simp] theorem State.withAnu_anu (s : State) (x : Anu) : (s.withAnu x).anu = x := rfl
@[simp] theorem State.withAnu_emt (s : State) (x : Anu) : (s.withAnu x).emt = s.emt := rfl
@[simp] theorem State.withAnu_rgu (s : State) (x : Anu) : (s.withAnu x).rgu = s.rgu := rfl
@[simp] theorem State.withAnu_pta (s : State) (x : Anu) : (s.withAnu x).pta = s.pta := rfl
@[simp] theorem State.withAnu_phc (s : State) (x : Anu) : (s.withAnu x).phc = s.phc := rfl
@[simp] theorem State.withAnu_pwk (s : State) (x : Anu) : (s.withAnu x).pwk = s.pwk := rfl
@[simp] theorem State.withAnu_slc (s : State) (x : Anu) : (s.withAnu x).slc = s.slc := rfl
@[simp] theorem State.withAnu_pru (s : State) (x : Anu) : (s.withAnu x).pru = s.pru := rfl
@[simp] theorem State.withAnu_rps (s : State) (x : Anu) : (s.withAnu x).rps = s.rps := rfl
@[simp] theorem State.withAnu_cmu (s : State) (x : Anu) : (s.withAnu x).cmu = s.cmu := rfl
@[simp] theorem State.withAnu_cst (s : State) (x : Anu) : (s.withAnu x).cst = s.cst := rfl
@[simp] theorem State.withAnu_draws (s : State) (x : Anu) : (s.withAnu x).draws = s.draws := rfl
@[simp] theorem State.withAnu_pending (s : State) (x : Anu) : (s.withAnu x).pending = s.pending := rfl
@[simp] theorem State.withAnu_withAnu (s : State) (x y : Anu) : (s.withAnu x).withAnu y = s.withAnu y := rfl
@[simp] theorem State.withAnu_self (s : State) : s.withAnu s.anu = s := rfl

/-! ## State.withEmt -/

@[simp] theorem State.withEmt_powered (s : State) (x : Emt) : (s.withEmt x).powered = s.powered := rfl
@[simp] theorem State.withEmt_time (s : State) (x : Emt) : (s.withEmt x).time = s.time := rfl
@[simp] theorem State.withEmt_anu (s : State) (x : Emt) : (s.withEmt x).anu = s.anu := rfl
@[simp] theorem State.withEmt_emt (s : State) (x : Emt) : (s.withEmt x).emt = x := rfl
@[simp] theorem State.withEmt_rgu (s : State) (x : Emt) : (s.withEmt x).rgu = s.rgu := rfl
@[simp] theorem State.withEmt_pta (s : State) (x : Emt) : (s.withEmt x).pta = s.pta := rfl
@[simp] theorem State.withEmt_phc (s : State) (x : Emt) : (s.withEmt x).phc = s.phc := rfl
@[simp] theorem State.withEmt_pwk (s : State) (x : Emt) : (s.withEmt x).pwk = s.pwk := rfl
@[simp] theorem State.withEmt_slc (s : State) (x : Emt) : (s.withEmt x).slc = s.slc := rfl
@[simp] theorem State.withEmt_pru (s : State) (x : Emt) : (s.withEmt x).pru = s.pru := rfl
@[simp] theorem State.withEmt_rps (s : State) (x : Emt) : (s.withEmt x).rps = s.rps := rfl
@[simp] theorem State.withEmt_cmu (s : State) (x : Emt) : (s.withEmt x).cmu = s.cmu := rfl
@[simp] theorem State.withEmt_cst (s : State) (x : Emt) : (s.withEmt x).cst = s.cst := rfl
@[simp] theorem State.withEmt_draws (s : State) (x : Emt) : (s.withEmt x).draws = s.draws := rfl
@[simp] theorem State.withEmt_pending (s : State) (x : Emt) : (s.withEmt x).pending = s.pending := rfl
@[simp] theorem State.withEmt_withEmt (s : State) (x y : Emt) : (s.withEmt x).withEmt y = s.withEmt y := rfl
@[simp] theorem State.withEmt_self (s : State) : s.withEmt s.emt = s := rfl

/-! ## State.withRgu -/

@[simp] theorem State.withRgu_powered (s : State) (x : Rgu) : (s.withRgu x).powered = s.powered := rfl
@[simp] theorem State.withRgu_time (s : State) (x : Rgu) : (s.withRgu x).time = s.time := rfl
@[simp] theorem State.withRgu_anu (s : State) (x : Rgu) : (s.withRgu x).anu = s.anu := rfl
@[simp] theorem State.withRgu_emt (s : State) (x : Rgu) : (s.withRgu x).emt = s.emt := rfl
@[simp] theorem State.withRgu_rgu (s : State) (x : Rgu) : (s.withRgu x).rgu = x := rfl
@[simp] theorem State.withRgu_pta (s : State) (x : Rgu) : (s.withRgu x).pta = s.pta := rfl
@[simp] theorem State.withRgu_phc (s : State) (x : Rgu) : (s.withRgu x).phc = s.phc := rfl
@[simp] theorem State.withRgu_pwk (s : State) (x : Rgu) : (s.withRgu x).pwk = s.pwk := rfl
@[simp] theorem State.withRgu_slc (s : State) (x : Rgu) : (s.withRgu x).slc = s.slc := rfl
@[simp] theorem State.withRgu_pru (s : State) (x : Rgu) : (s.withRgu x).pru = s.pru := rfl
@[simp] theorem State.withRgu_rps (s : State) (x : Rgu) : (s.withRgu x).rps = s.rps := rfl
@[simp] theorem State.withRgu_cmu (s : State) (x : Rgu) : (s.withRgu x).cmu = s.cmu := rfl
@[simp] theorem State.withRgu_cst (s : State) (x : Rgu) : (s.withRgu x).cst = s.cst := rfl
@[simp] theorem State.withRgu_draws (s : State) (x : Rgu) : (s.withRgu x).draws = s.draws := rfl
@[simp] theorem State.withRgu_pending (s : State) (x : Rgu) : (s.withRgu x).pending = s.pending := rfl
@[simp] theorem State.withRgu_withRgu (s : State) (x y : Rgu) : (s.withRgu x).withRgu y = s.withRgu y := rfl
@[simp] theorem State.withRgu_self (s : State) : s.withRgu s.rgu = s := rfl

/-! ## State.withPta -/

@[simp] theorem State.withPta_powered (s : State) (x : Pta) : (s.withPta x).powered = s.powered := rfl
@[simp] theorem State.withPta_time (s : State) (x : Pta) : (s.withPta x).time = s.time := rfl
@[simp] theorem State.withPta_anu (s : State) (x : Pta) : (s.withPta x).anu = s.anu := rfl
@[simp] theorem State.withPta_emt (s : State) (x : Pta) : (s.withPta x).emt = s.emt := rfl
@[simp] theorem State.withPta_rgu (s : State) (x : Pta) : (s.withPta x).rgu = s.rgu := rfl
@[simp] theorem State.withPta_pta (s : State) (x : Pta) : (s.withPta x).pta = x := rfl
@[simp] theorem State.withPta_phc (s : State) (x : Pta) : (s.withPta x).phc = s.phc := rfl
@[simp] theorem State.withPta_pwk (s : State) (x : Pta) : (s.withPta x).pwk = s.pwk := rfl
@[simp] theorem State.withPta_slc (s : State) (x : Pta) : (s.withPta x).slc = s.slc := rfl
@[simp] theorem State.withPta_pru (s : State) (x : Pta) : (s.withPta x).pru = s.pru := rfl
@[simp] theorem State.withPta_rps (s : State) (x : Pta) : (s.withPta x).rps = s.rps := rfl
@[simp] theorem State.withPta_cmu (s : State) (x : Pta) : (s.withPta x).cmu = s.cmu := rfl
@[simp] theorem State.withPta_cst (s : State) (x : Pta) : (s.withPta x).cst = s.cst := rfl
@[simp] theorem State.withPta_draws (s : State) (x : Pta) : (s.withPta x).draws = s.draws := rfl
@[simp] theorem State.withPta_pending (s : State) (x : Pta) : (s.withPta x).pending = s.pending := rfl
@[simp] theorem State.withPta_withPta (s : State) (x y : Pta) : (s.withPta x).withPta y = s.withPta y := rfl
@[simp] theorem State.withPta_self (s : State) : s.withPta s.pta = s := rfl

/-! ## State.withPhc -/

@[simp] theorem State.withPhc_powered (s : State) (x : Phc) : (s.withPhc x).powered = s.powered := rfl
@[simp] theorem State.withPhc_time (s : State) (x : Phc) : (s.withPhc x).time = s.time := rfl
@[simp] theorem State.withPhc_anu (s : State) (x : Phc) : (s.withPhc x).anu = s.anu := rfl
@[simp] theorem State.withPhc_emt (s : State) (x : Phc) : (s.withPhc x).emt = s.emt := rfl
@[simp] theorem State.withPhc_rgu (s : State) (x : Phc) : (s.withPhc x).rgu = s.rgu := rfl
@[simp] theorem State.withPhc_pta (s : State) (x : Phc) : (s.withPhc x).pta = s.pta := rfl
@[simp] theorem State.withPhc_phc (s : State) (x : Phc) : (s.withPhc x).phc = x := rfl
@[simp] theorem State.withPhc_pwk (s : State) (x : Phc) : (s.withPhc x).pwk = s.pwk := rfl
@[simp] theorem State.withPhc_slc (s : State) (x : Phc) : (s.withPhc x).slc = s.slc := rfl
@[simp] theorem State.withPhc_pru (s : State) (x : Phc) : (s.withPhc x).pru = s.pru := rfl
@[simp] theorem State.withPhc_rps (s : State) (x : Phc) : (s.withPhc x).rps = s.rps := rfl
@[simp] theorem State.withPhc_cmu (s : State) (x : Phc) : (s.withPhc x).cmu = s.cmu := rfl
@[simp] theorem State.withPhc_cst (s : State) (x : Phc) : (s.withPhc x).cst = s.cst := rfl
@[simp] theorem State.withPhc_draws (s : State) (x : Phc) : (s.withPhc x).draws = s.draws := rfl
@[simp] theorem State.withPhc_pending (s : State) (x : Phc) : (s.withPhc x).pending = s.pending := rfl
@[simp] theorem State.withPhc_withPhc (s : State) (x y : Phc) : (s.withPhc x).withPhc y = s.withPhc y := rfl
@[simp] theorem State.withPhc_self (s : State) : s.withPhc s.phc = s := rfl

/-! ## State.withPwk -/

@[simp] theorem State.withPwk_powered (s : State) (x : Pwk) : (s.withPwk x).powered = s.powered := rfl
@[simp] theorem State.withPwk_time (s : State) (x : Pwk) : (s.withPwk x).time = s.time := rfl
@[simp] theorem State.withPwk_anu (s : State) (x : Pwk) : (s.withPwk x).anu = s.anu := rfl
@[simp] theorem State.withPwk_emt (s : State) (x : Pwk) : (s.withPwk x).emt = s.emt := rfl
@[simp] theorem State.withPwk_rgu (s : State) (x : Pwk) : (s.withPwk x).rgu = s.rgu := rfl
@[simp] theorem State.withPwk_pta (s : State) (x : Pwk) : (s.withPwk x).pta = s.pta := rfl
@[simp] theorem State.withPwk_phc (s : State) (x : Pwk) : (s.withPwk x).phc = s.phc := rfl
@[simp] theorem State.withPwk_pwk (s : State) (x : Pwk) : (s.withPwk x).pwk = x := rfl
@[simp] theorem State.withPwk_slc (s : State) (x : Pwk) : (s.withPwk x).slc = s.slc := rfl
@[simp] theorem State.withPwk_pru (s : State) (x : Pwk) : (s.withPwk x).pru = s.pru := rfl
@[simp] theorem State.withPwk_rps (s : State) (x : Pwk) : (s.withPwk x).rps = s.rps := rfl
@[simp] theorem State.withPwk_cmu (s : State) (x : Pwk) : (s.withPwk x).cmu = s.cmu := rfl
@[simp] theorem State.withPwk_cst (s : State) (x : Pwk) : (s.withPwk x).cst = s.cst := rfl
@[simp] theorem State.withPwk_draws (s : State) (x : Pwk) : (s.withPwk x).draws = s.draws := rfl
@[simp] theorem State.withPwk_pending (s : State) (x : Pwk) : (s.withPwk x).pending = s.pending := rfl
@[simp] theorem State.withPwk_withPwk (s : State) (x y : Pwk) : (s.withPwk x).withPwk y = s.withPwk y := rfl
@[simp] theorem State.withPwk_self (s : State) : s.withPwk s.pwk = s := rfl

/-! ## State.withSlc -/

@[simp] theorem State.withSlc_powered (s : State) (x : Slc) : (s.withSlc x).powered = s.powered := rfl
@[simp] theorem State.withSlc_time (s : State) (x : Slc) : (s.withSlc x).time = s.time := rfl
@[simp] theorem State.withSlc_anu (s : State) (x : Slc) : (s.withSlc x).anu = s.anu := rfl
@[simp] theorem State.withSlc_emt (s : State) (x : Slc) : (s.withSlc x).emt = s.emt := rfl
@[simp] theorem State.withSlc_rgu (s : State) (x : Slc) : (s.withSlc x).rgu = s.rgu := rfl
@[simp] theorem State.withSlc_pta (s : State) (x : Slc) : (s.withSlc x).pta = s.pta := rfl
@[simp] theorem State.withSlc_phc (s : State) (x : Slc) : (s.withSlc x).phc = s.phc := rfl
@[simp] theorem State.withSlc_pwk (s : State) (x : Slc) : (s.withSlc x).pwk = s.pwk := rfl
@[simp] theorem State.withSlc_slc (s : State) (x : Slc) : (s.withSlc x).slc = x := rfl
@[simp] theorem State.withSlc_pru (s : State) (x : Slc) : (s.withSlc x).pru = s.pru := rfl
@[simp] theorem State.withSlc_rps (s : State) (x : Slc) : (s.withSlc x).rps = s.rps := rfl
@[simp] theorem State.withSlc_cmu (s : State) (x : Slc) : (s.withSlc x).cmu = s.cmu := rfl
@[simp] theorem State.withSlc_cst (s : State) (x : Slc) : (s.withSlc x).cst = s.cst := rfl
@[simp] theorem State.withSlc_draws (s : State) (x : Slc) : (s.withSlc x).draws = s.draws := rfl
@[simp] theorem State.withSlc_pending (s : State) (x : Slc) : (s.withSlc x).pending = s.pending := rfl
@[simp] theorem State.withSlc_withSlc (s : State) (x y : Slc) : (s.withSlc x).withSlc y = s.withSlc y := rfl
@[simp] theorem State.withSlc_self (s : State) : s.withSlc s.slc = s := rfl

/-! ## State.withPru -/

@[simp] theorem State.withPru_powered (s : State) (x : Pru) : (s.withPru x).powered = s.powered := rfl
@[simp] theorem State.withPru_time (s : State) (x : Pru) : (s.withPru x).time = s.time := rfl
@[simp] theorem State.withPru_anu (s : State) (x : Pru) : (s.withPru x).anu = s.anu := rfl
@[simp] theorem State.withPru_emt (s : State) (x : Pru) : (s.withPru x).emt = s.emt := rfl
@[simp] theorem State.withPru_rgu (s : State) (x : Pru) : (s.withPru x).rgu = s.rgu := rfl
@[simp] theorem State.withPru_pta (s : State) (x : Pru) : (s.withPru x).pta = s.pta := rfl
@[simp] theorem State.withPru_phc (s : State) (x : Pru) : (s.withPru x).phc = s.phc := rfl
@[simp] theorem State.withPru_pwk (s : State) (x : Pru) : (s.withPru x).pwk = s.pwk := rfl
@[simp] theorem State.withPru_slc (s : State) (x : Pru) : (s.withPru x).slc = s.slc := rfl
@[simp] theorem State.withPru_pru (s : State) (x : Pru) : (s.withPru x).pru = x := rfl
@[simp] theorem State.withPru_rps (s : State) (x : Pru) : (s.withPru x).rps = s.rps := rfl
@[simp] theorem State.withPru_cmu (s : State) (x : Pru) : (s.withPru x).cmu = s.cmu := rfl
@[simp] theorem State.withPru_cst (s : State) (x : Pru) : (s.withPru x).cst = s.cst := rfl
@[simp] theorem State.withPru_draws (s : State) (x : Pru) : (s.withPru x).draws = s.draws := rfl
@[simp] theorem State.withPru_pending (s : State) (x : Pru) : (s.withPru x).pending = s.pending := rfl
@[simp] theorem State.withPru_withPru (s : State) (x y : Pru) : (s.withPru x).withPru y = s.withPru y := rfl
@[simp] theorem State.withPru_self (s : State) : s.withPru s.pru = s := rfl

/-! ## State.withRps -/

@[simp] theorem State.withRps_powered (s : State) (x : Rps) : (s.withRps x).powered = s.powered := rfl
@[simp] theorem State.withRps_time (s : State) (x : Rps) : (s.withRps x).time = s.time := rfl
@[simp] theorem State.withRps_anu (s : State) (x : Rps) : (s.withRps x).anu = s.anu := rfl
@[simp] theorem State.withRps_emt (s : State) (x : Rps) : (s.withRps x).emt = s.emt := rfl
@[simp] theorem State.withRps_rgu (s : State) (x : Rps) : (s.withRps x).rgu = s.rgu := rfl
@[simp] theorem State.withRps_pta (s : State) (x : Rps) : (s.withRps x).pta = s.pta := rfl
@[simp] theorem State.withRps_phc (s : State) (x : Rps) : (s.withRps x).phc = s.phc := rfl
@[simp] theorem State.withRps_pwk (s : State) (x : Rps) : (s.withRps x).pwk = s.pwk := rfl
@[simp] theorem State.withRps_slc (s : State) (x : Rps) : (s.withRps x).slc = s.slc := rfl
@[simp] theorem State.withRps_pru (s : State) (x : Rps) : (s.withRps x).pru = s.pru := rfl
@[simp] theorem State.withRps_rps (s : State) (x : Rps) : (s.withRps x).rps = x := rfl
@[simp] theorem State.withRps_cmu (s : State) (x : Rps) : (s.withRps x).cmu = s.cmu := rfl
@[simp] theorem State.withRps_cst (s : State) (x : Rps) : (s.withRps x).cst = s.cst := rfl
@[simp] theorem State.withRps_draws (s : State) (x : Rps) : (s.withRps x).draws = s.draws := rfl
@[simp] theorem State.withRps_pending (s : State) (x : Rps) : (s.withRps x).pending = s.pending := rfl
@[simp] theorem State.withRps_withRps (s : State) (x y : Rps) : (s.withRps x).withRps y = s.withRps y := rfl
@[simp] theorem State.withRps_self (s : State) : s.withRps s.rps = s := rfl

/-! ## State.withCmu -/

@[simp] theorem State.withCmu_powered (s : State) (x : Cmu) : (s.withCmu x).powered = s.powered := rfl
@[simp] theorem State.withCmu_time (s : State) (x : Cmu) : (s.withCmu x).time = s.time := rfl
@[simp] theorem State.withCmu_anu (s : State) (x : Cmu) : (s.withCmu x).anu = s.anu := rfl
@[simp] theorem State.withCmu_emt (s : State) (x : Cmu) : (s.withCmu x).emt = s.emt := rfl
@[simp] theorem State.withCmu_rgu (s : State) (x : Cmu) : (s.withCmu x).rgu = s.rgu := rfl
@[simp] theorem State.withCmu_pta (s : State) (x : Cmu) : (s.withCmu x).pta = s.pta := rfl
@[simp] theorem State.withCmu_phc (s : State) (x : Cmu) : (s.withCmu x).phc = s.phc := rfl
@[simp] theorem State.withCmu_pwk (s : State) (x : Cmu) : (s.withCmu x).pwk = s.pwk := rfl
@[simp] theorem State.withCmu_slc (s : State) (x : Cmu) : (s.withCmu x).slc = s.slc := rfl
@[simp] theorem State.withCmu_pru (s : State) (x : Cmu) : (s.withCmu x).pru = s.pru := rfl
@[simp] theorem State.withCmu_rps (s : State) (x : Cmu) : (s.withCmu x).rps = s.rps := rfl
@[simp] theorem State.withCmu_cmu (s : State) (x : Cmu) : (s.withCmu x).cmu = x := rfl
@[simp] theorem State.withCmu_cst (s : State) (x : Cmu) : (s.withCmu x).cst = s.cst := rfl
@[simp] theorem State.withCmu_draws (s : State) (x : Cmu) : (s.withCmu x).draws = s.draws := rfl
@[simp] theorem State.withCmu_pending (s : State) (x : Cmu) : (s.withCmu x).pending = s.pending := rfl
@[simp] theorem State.withCmu_withCmu (s : State) (x y : Cmu) : (s.withCmu x).withCmu y = s.withCmu y := rfl
@[simp] theorem State.withCmu_self (s : State) : s.withCmu s.cmu = s := rfl

/-! ## State.withCst -/

@[simp] theorem State.withCst_powered (s : State) (x : Cst) : (s.withCst x).powered = s.powered := rfl
@[simp] theorem State.withCst_time (s : State) (x : Cst) : (s.withCst x).time = s.time := rfl
@[simp] theorem State.withCst_anu (s : State) (x : Cst) : (s.withCst x).anu = s.anu := rfl
@[simp] theorem State.withCst_emt (s : State) (x : Cst) : (s.withCst x).emt = s.emt := rfl
@[simp] theorem State.withCst_rgu (s : State) (x : Cst) : (s.withCst x).rgu = s.rgu := rfl
@[simp] theorem State.withCst_pta (s : State) (x : Cst) : (s.withCst x).pta = s.pta := rfl
@[simp] theorem State.withCst_phc (s : State) (x : Cst) : (s.withCst x).phc = s.phc := rfl
@[simp] theorem State.withCst_pwk (s : State) (x : Cst) : (s.withCst x).pwk = s.pwk := rfl
@[simp] theorem State.withCst_slc (s : State) (x : Cst) : (s.withCst x).slc = s.slc := rfl
@[simp] theorem State.withCst_pru (s : State) (x : Cst) : (s.withCst x).pru = s.pru := rfl
@[simp] theorem State.withCst_rps (s : State) (x : Cst) : (s.withCst x).rps = s.rps := rfl
@[simp] theorem State.withCst_cmu (s : State) (x : Cst) : (s.withCst x).cmu = s.cmu := rfl
@[simp] theorem State.withCst_cst (s : State) (x : Cst) : (s.withCst x).cst = x := rfl
@[simp] theorem State.withCst_draws (s : State) (x : Cst) : (s.withCst x).draws = s.draws := rfl
@[simp] theorem State.withCst_pending (s : State) (x : Cst) : (s.withCst x).pending = s.pending := rfl
@[simp] theorem State.withCst_withCst (s : State) (x y : Cst) : (s.withCst x).withCst y = s.withCst y := rfl
@[simp] theorem State.withCst_self (s : State) : s.withCst s.cst = s := rfl

/-! ## State.withPending -/

@[simp] theorem State.withPending_powered (s : State) (x : List Instr) : (s.withPending x).powered = s.powered := rfl
@[simp] theorem State.withPending_time (s : State) (x : List Instr) : (s.withPending x).time = s.time := rfl
@[simp] theorem State.withPending_anu (s : State) (x : List Instr) : (s.withPending x).anu = s.anu := rfl
@[simp] theorem State.withPending_emt (s : State) (x : List Instr) : (s.withPending x).emt = s.emt := rfl
@[simp] theorem State.withPending_rgu (s : State) (x : List Instr) : (s.withPending x).rgu = s.rgu := rfl
@[simp] theorem State.withPending_pta (s : State) (x : List Instr) : (s.withPending x).pta = s.pta := rfl
@[simp] theorem State.withPending_phc (s : State) (x : List Instr) : (s.withPending x).phc = s.phc := rfl
@[simp] theorem State.withPending_pwk (s : State) (x : List Instr) : (s.withPending x).pwk = s.pwk := rfl
@[simp] theorem State.withPending_slc (s : State) (x : List Instr) : (s.withPending x).slc = s.slc := rfl
@[simp] theorem State.withPending_pru (s : State) (x : List Instr) : (s.withPending x).pru = s.pru := rfl
@[simp] theorem State.withPending_rps (s : State) (x : List Instr) : (s.withPending x).rps = s.rps := rfl
@[simp] theorem State.withPending_cmu (s : State) (x : List Instr) : (s.withPending x).cmu = s.cmu := rfl
@[simp] theorem State.withPending_cst (s : State) (x : List Instr) : (s.withPending x).cst = s.cst := rfl
@[simp] theorem State.withPending_draws (s : State) (x : List Instr) : (s.withPending x).draws = s.draws := rfl
@[simp] theorem State.withPending_pending (s : State) (x : List Instr) : (s.withPending x).pending = x := rfl
@[simp] theorem State.withPending_withPending (s : State) (x y : List Instr) : (s.withPending x).withPending y = s.withPending y := rfl
@[simp] theorem State.withPending_self (s : State) : s.withPending s.pending = s := rfl

/-! ## State.drawn -/

@[simp] theorem State.drawn_powered (s : State) : s.drawn.powered = s.powered := rfl
@[simp] theorem State.drawn_time (s : State) : s.drawn.time = s.time := rfl
@[simp] theorem State.drawn_anu (s : State) : s.drawn.anu = s.anu := rfl
@[simp] theorem State.drawn_emt (s : State) : s.drawn.emt = s.emt := rfl
@[simp] theorem State.drawn_rgu (s : State) : s.drawn.rgu = s.rgu := rfl
@[simp] theorem State.drawn_pta (s : State) : s.drawn.pta = s.pta := rfl
@[simp] theorem State.drawn_phc (s : State) : s.drawn.phc = s.phc := rfl
@[simp] theorem State.drawn_pwk (s : State) : s.drawn.pwk = s.pwk := rfl
@[simp] theorem State.drawn_slc (s : State) : s.drawn.slc = s.slc := rfl
@[simp] theorem State.drawn_pru (s : State) : s.drawn.pru = s.pru := rfl
@[simp] theorem State.drawn_rps (s : State) : s.drawn.rps = s.rps := rfl
@[simp] theorem State.drawn_cmu (s : State) : s.drawn.cmu = s.cmu := rfl
@[simp] theorem State.drawn_cst (s : State) : s.drawn.cst = s.cst := rfl
@[simp] theorem State.drawn_draws (s : State) : s.drawn.draws = s.draws + 1 := rfl
@[simp] theorem State.drawn_pending (s : State) : s.drawn.pending = s.pending := rfl

end Sys2Proof.Machine
end

