-- ==== Sys2Proof/Laws/Free.lean ====
section
/-! SUPPORT. The report stream while it is free (State.FreeReport): what one record, one raise, one reply and one outgoing
record of the walker do, each in one equation, and what a command's frame does once the lane takes it. -/

namespace Sys2Proof.Machine

/-! ## FreeReport through updates of other blocks -/

@[simp] theorem State.withTime_free (k : Nat) (s : State) (x : Nat) : (s.withTime x).FreeReport k = s.FreeReport k := rfl
@[simp] theorem State.withAnu_free (k : Nat) (s : State) (x : Anu) : (s.withAnu x).FreeReport k = s.FreeReport k := rfl
@[simp] theorem State.withEmt_free (k : Nat) (s : State) (x : Emt) : (s.withEmt x).FreeReport k = s.FreeReport k := rfl
@[simp] theorem State.withRgu_free (k : Nat) (s : State) (x : Rgu) : (s.withRgu x).FreeReport k = s.FreeReport k := rfl
@[simp] theorem State.withPta_free (k : Nat) (s : State) (x : Pta) : (s.withPta x).FreeReport k = s.FreeReport k := rfl
@[simp] theorem State.withPhc_free (k : Nat) (s : State) (x : Phc) : (s.withPhc x).FreeReport k = s.FreeReport k := rfl
@[simp] theorem State.withPwk_free (k : Nat) (s : State) (x : Pwk) : (s.withPwk x).FreeReport k = s.FreeReport k := rfl
@[simp] theorem State.withSlc_free (k : Nat) (s : State) (x : Slc) : (s.withSlc x).FreeReport k = s.FreeReport k := rfl
@[simp] theorem State.withPru_free (k : Nat) (s : State) (x : Pru) : (s.withPru x).FreeReport k = s.FreeReport k := rfl
@[simp] theorem State.withCst_free (k : Nat) (s : State) (x : Cst) : (s.withCst x).FreeReport k = s.FreeReport k := rfl
@[simp] theorem State.withPending_free (k : Nat) (s : State) (x : List Instr) :
    (s.withPending x).FreeReport k = s.FreeReport k := rfl
theorem State.withCmu_free (k : Nat) (s : State) (x : Cmu) (h : x.settings = s.cmu.settings) :
    (s.withCmu x).FreeReport k = s.FreeReport k := by simp [State.FreeReport, h]
@[simp] theorem State.frameEnded_free (k : Nat) (s : State) : s.frameEnded.FreeReport k = s.FreeReport k := rfl

/-- Room for more records leaves room for fewer. -/
theorem State.FreeReport.mono {j k : Nat} {s : State} (h : s.FreeReport k) (hj : j ≤ k) : s.FreeReport j :=
  ⟨h.1, by have := h.2.1; omega, by rcases h.2.2 with h | h; exacts [.inl h, .inr (by omega)]⟩

theorem State.FreeReport.room {k : Nat} {s : State} (h : s.FreeReport (k + 1)) : s.rps.room = true := by
  have := h.2.1; simp only [Rps.room, decide_eq_true_eq]; omega

/-! ## One record and one event -/

/-- A record that crosses no threshold is appended and nothing else happens (R174, R179). -/
theorem Rps.append_free (c : Settings) (now : Nat) (r : Record) (q : Rps)
    (h : q.thinning = true ∨ q.queue.length + 1 < c.thinThreshold) : q.append c now r = q.plus r := by
  unfold Rps.append Rps.plus
  rcases h with h | h
  · simp [h]
  · have : ¬ (q.queue.length + 1 = c.thinThreshold) := by omega
    simp [this]

/-- With nothing pending there is nothing to serve (R183). -/
theorem Rps.serve_nil (c : Settings) (now : Nat) (q : Rps) (h : q.events = []) : q.serve c now = q := by
  simp only [Rps.serve, Rps.serveRounds, h]

/-- One pending event with room becomes an EVENT record (R183). -/
theorem Rps.serveRounds_one (c : Settings) (now n : Nat) (q : Rps) (e : PendingEvent) (h : q.events = [e])
    (hr : q.room = true) (hq : q.thinning = true ∨ q.queue.length + 1 < c.thinThreshold) :
    q.serveRounds c now (n + 2) = Rps.plus (.event e) { q with events := [] } := by
  rw [Rps.serveRounds]
  simp only [h, hr, if_true]
  rw [Rps.append_free c now (.event e) { q with events := [] } hq]
  rfl

theorem Rps.serve_one (c : Settings) (now : Nat) (q : Rps) (e : PendingEvent) (h : q.events = [e]) (hr : q.room = true)
    (hq : q.thinning = true ∨ q.queue.length + 1 < c.thinThreshold) :
    q.serve c now = Rps.plus (.event e) { q with events := [] } := Rps.serveRounds_one c now 30 q e h hr hq

theorem State.enter_free {k : Nat} {s : State} (r : Record) (h : s.FreeReport (k + 1)) :
    s.enter r = s.withRps (s.rps.plus r) := by
  have hq : s.rps.thinning = true ∨ s.rps.queue.length + 1 < s.cmu.settings.thinThreshold := by
    rcases h.2.2 with h | h; exacts [.inl h, .inr (by omega)]
  unfold State.enter Rps.enter
  rw [Rps.append_free _ _ _ _ hq, Rps.serve_nil _ _ _ (by simpa [Rps.plus] using h.1)]

theorem State.raise_free {k : Nat} {s : State} (e : Event) (h : s.FreeReport (k + 1)) :
    s.raise e = s.withRps (s.rps.plusEvent s.cmu.settings s.time e) := by
  have hq : s.rps.thinning = true ∨ s.rps.queue.length + 1 < s.cmu.settings.thinThreshold := by
    rcases h.2.2 with h | h; exacts [.inl h, .inr (by omega)]
  have he := h.1
  have hr := h.room
  unfold State.raise Rps.note Rps.plusEvent
  by_cases hm : s.cmu.settings.masks e.kind = true
  · simp [hm, Rps.serve_nil _ _ _ he]
  · rw [if_neg hm, if_neg hm, he,
      Rps.serve_one _ _ { s.rps with events := insertEvent e s.time [] } ⟨e, 1, s.time⟩ rfl hr hq]
    simp only [Rps.plus, ← he]

/-- A free report stream with one more record has room for one fewer. -/
theorem State.FreeReport.plus {k : Nat} {s : State} (r : Record) (h : s.FreeReport (k + 1)) :
    (s.withRps (s.rps.plus r)).FreeReport k := by
  obtain ⟨h1, h2, h3⟩ := h
  refine ⟨h1, ?_, ?_⟩
  · simp [Rps.plus]; omega
  · rcases h3 with h | h
    · exact .inl h
    · right; simp [Rps.plus]; omega

theorem State.FreeReport.plusEvent {k : Nat} {s : State} (e : Event) (h : s.FreeReport (k + 1)) :
    (s.withRps (s.rps.plusEvent s.cmu.settings s.time e)).FreeReport k := by
  unfold Rps.plusEvent
  split
  · exact h.mono (by omega)
  · exact h.plus _

/-! ## Replies, the walker's record and frames -/

/-- A reply with room enters at once (R192). -/
theorem State.sendReply_free {k : Nat} {s : State} (r : Reply) (h : s.FreeReport (k + 1)) :
    s.sendReply r = (s.withCmu { s.cmu with ready := true, reply := none }).withRps (s.rps.plus (.reply r)) := by
  unfold State.sendReply
  rw [if_pos h.room, State.enter_free _ h]
  rfl

/-- A frame answered with room (R190, R192). -/
theorem State.reply_answered {k : Nat} {s : State} (r : Reply) (h : s.FreeReport (k + 1)) :
    s.frameEnded.sendReply r = s.answered r := by
  rw [State.sendReply_free r (k := k) (by simpa using h)]
  rfl

/-- The walker's record with room enters at once (R105). -/
theorem State.placeRecord_free {k : Nat} {s : State} (r : Record) (h : s.FreeReport (k + 1)) :
    s.placeRecord r = (s.withPwk { s.pwk with outgoing := none }).withRps (s.rps.plus r) := by
  unfold State.placeRecord
  rw [if_pos h.room, State.enter_free (k := k) _ (by simpa using h)]
  rfl

/-- A command whose frame the lane takes and whose operands fit is carried out with its frame ended (R190, R191). -/
theorem State.commandFrame_taken {i : Instr} {s : State} (f : State → State) (h : s.Takes i) (hf : operandsFit i = true) :
    act (State.commandFrame i f) s = .next (f s.frameEnded) := by
  simp [act, h.1, State.commandFrame, State.laneFrame, h.2, hf]

end Sys2Proof.Machine
end

