-- ==== Sys2Proof/Laws/Ops.lean ====
section
/-! SUPPORT. What the shared operations leave alone, said once for each of them: the clock of the part (local time, supply,
the queue of commands and the FIRE pulse) and what the part keeps through a run (the configuration and the calibration
store). A lemma stands for an operation that leaves the whole group alone; a proof about a command cites it and does not
unfold the operation. -/

namespace Sys2Proof.Machine

/-- What only a tick, a reset, a power loss or a shot moves. -/
structure Clock where
  time : Nat
  powered : Bool
  pending : List Instr
  fire : Option FirePulse

/-- What only CONFIGURE, the store's commands and a reset move. -/
structure Kept where
  settings : Settings
  cst : Cst

def State.clock (s : State) : Clock := ⟨s.time, s.powered, s.pending, s.emt.fire⟩
def State.kept (s : State) : Kept := ⟨s.cmu.settings, s.cst⟩

/-! ## Updates of one block -/

@[simp] theorem State.withAnu_clock (s : State) (x : Anu) : (s.withAnu x).clock = s.clock := rfl
@[simp] theorem State.withAnu_kept (s : State) (x : Anu) : (s.withAnu x).kept = s.kept := rfl
@[simp] theorem State.withRgu_clock (s : State) (x : Rgu) : (s.withRgu x).clock = s.clock := rfl
@[simp] theorem State.withRgu_kept (s : State) (x : Rgu) : (s.withRgu x).kept = s.kept := rfl
@[simp] theorem State.withPta_clock (s : State) (x : Pta) : (s.withPta x).clock = s.clock := rfl
@[simp] theorem State.withPta_kept (s : State) (x : Pta) : (s.withPta x).kept = s.kept := rfl
@[simp] theorem State.withPhc_clock (s : State) (x : Phc) : (s.withPhc x).clock = s.clock := rfl
@[simp] theorem State.withPhc_kept (s : State) (x : Phc) : (s.withPhc x).kept = s.kept := rfl
@[simp] theorem State.withPwk_clock (s : State) (x : Pwk) : (s.withPwk x).clock = s.clock := rfl
@[simp] theorem State.withPwk_kept (s : State) (x : Pwk) : (s.withPwk x).kept = s.kept := rfl
@[simp] theorem State.withSlc_clock (s : State) (x : Slc) : (s.withSlc x).clock = s.clock := rfl
@[simp] theorem State.withSlc_kept (s : State) (x : Slc) : (s.withSlc x).kept = s.kept := rfl
@[simp] theorem State.withPru_clock (s : State) (x : Pru) : (s.withPru x).clock = s.clock := rfl
@[simp] theorem State.withPru_kept (s : State) (x : Pru) : (s.withPru x).kept = s.kept := rfl
@[simp] theorem State.withRps_clock (s : State) (x : Rps) : (s.withRps x).clock = s.clock := rfl
@[simp] theorem State.withRps_kept (s : State) (x : Rps) : (s.withRps x).kept = s.kept := rfl
@[simp] theorem State.drawn_clock (s : State) : s.drawn.clock = s.clock := rfl
@[simp] theorem State.drawn_kept (s : State) : s.drawn.kept = s.kept := rfl
@[simp] theorem State.withCmu_clock (s : State) (x : Cmu) : (s.withCmu x).clock = s.clock := rfl
@[simp] theorem State.withCst_clock (s : State) (x : Cst) : (s.withCst x).clock = s.clock := rfl
@[simp] theorem State.withEmt_kept (s : State) (x : Emt) : (s.withEmt x).kept = s.kept := rfl
@[simp] theorem State.withEmt_clock (s : State) (x : Emt) (h : x.fire = s.emt.fire) : (s.withEmt x).clock = s.clock := by
  simp [State.clock, h]
@[simp] theorem State.withCmu_kept (s : State) (x : Cmu) (h : x.settings = s.cmu.settings) : (s.withCmu x).kept = s.kept := by
  simp [State.kept, h]

/-! ## Operations, in the order of their files -/

@[simp] theorem State.raise_clock (e : Event) (s : State) :
    (State.raise e s).clock = s.clock := by
  simp [State.raise]

@[simp] theorem State.raise_kept (e : Event) (s : State) :
    (State.raise e s).kept = s.kept := by
  simp [State.raise]

@[simp] theorem State.raiseInRun_clock (e : Event) (s : State) :
    (State.raiseInRun e s).clock = s.clock := by
  simp only [State.raiseInRun]; (repeat' split) <;> simp [*]

@[simp] theorem State.raiseInRun_kept (e : Event) (s : State) :
    (State.raiseInRun e s).kept = s.kept := by
  simp only [State.raiseInRun]; (repeat' split) <;> simp [*]

@[simp] theorem State.enter_clock (r : Record) (s : State) :
    (State.enter r s).clock = s.clock := by
  simp [State.enter]

@[simp] theorem State.enter_kept (r : Record) (s : State) :
    (State.enter r s).kept = s.kept := by
  simp [State.enter]

@[simp] theorem State.sendReply_clock (r : Reply) (s : State) :
    (State.sendReply r s).clock = s.clock := by
  simp only [State.sendReply]; (repeat' split) <;> simp [*]

@[simp] theorem State.sendReply_kept (r : Reply) (s : State) :
    (State.sendReply r s).kept = s.kept := by
  simp only [State.sendReply]; (repeat' split) <;> simp [*]

@[simp] theorem State.requestFrame_clock (k : FrameKind) (s : State) :
    (State.requestFrame k s).clock = s.clock := by
  simp [State.requestFrame]

@[simp] theorem State.requestFrame_kept (k : FrameKind) (s : State) :
    (State.requestFrame k s).kept = s.kept := by
  simp [State.requestFrame]

@[simp] theorem State.requestBeacon_clock (s : State) :
    (State.requestBeacon s).clock = s.clock := by
  simp [State.requestBeacon]

@[simp] theorem State.requestBeacon_kept (s : State) :
    (State.requestBeacon s).kept = s.kept := by
  simp [State.requestBeacon]

@[simp] theorem State.raiseOption_clock (e : Option Event) (s : State) :
    (State.raiseOption e s).clock = s.clock := by
  simp only [State.raiseOption]; (repeat' split) <;> simp [*]

@[simp] theorem State.raiseOption_kept (e : Option Event) (s : State) :
    (State.raiseOption e s).kept = s.kept := by
  simp only [State.raiseOption]; (repeat' split) <;> simp [*]

@[simp] theorem State.anuIndex_clock (enc : Encoder) (s : State) :
    (State.anuIndex enc s).clock = s.clock := by
  simp only [State.anuIndex]; (repeat' split) <;> simp [*]

@[simp] theorem State.anuIndex_kept (enc : Encoder) (s : State) :
    (State.anuIndex enc s).kept = s.kept := by
  simp only [State.anuIndex]; (repeat' split) <;> simp [*]

@[simp] theorem encoderEdgeAct_clock (enc : Encoder) (a b : Bool) (s : State) :
    (encoderEdgeAct enc a b s).clock = s.clock := by
  simp [encoderEdgeAct]

@[simp] theorem encoderEdgeAct_kept (enc : Encoder) (a b : Bool) (s : State) :
    (encoderEdgeAct enc a b s).kept = s.kept := by
  simp [encoderEdgeAct]

@[simp] theorem absenceAct_clock (s : State) :
    (absenceAct s).clock = s.clock := by
  simp only [absenceAct]; (repeat' split) <;> simp [*]

@[simp] theorem absenceAct_kept (s : State) :
    (absenceAct s).kept = s.kept := by
  simp only [absenceAct]; (repeat' split) <;> simp [*]

@[simp] theorem State.offerPoint_clock (ctx : PointContext) (p : PointRecord) (s : State) :
    (State.offerPoint ctx p s).clock = s.clock := by
  simp only [State.offerPoint]; (repeat' split) <;> simp [*]

@[simp] theorem State.offerPoint_kept (ctx : PointContext) (p : PointRecord) (s : State) :
    (State.offerPoint ctx p s).kept = s.kept := by
  simp only [State.offerPoint]; (repeat' split) <;> simp [*]

@[simp] theorem State.judgeShot_clock (left : Option ClosedShot) (h : ClosedShot) (right : Option ClosedShot) (s : State) :
    (State.judgeShot left h right s).clock = s.clock := by
  simp only [State.judgeShot]; (repeat' split) <;> simp [*]

@[simp] theorem State.judgeShot_kept (left : Option ClosedShot) (h : ClosedShot) (right : Option ClosedShot) (s : State) :
    (State.judgeShot left h right s).kept = s.kept := by
  simp only [State.judgeShot]; (repeat' split) <;> simp [*]

@[simp] theorem State.ptaOpen_clock (line attempt : Nat) (mode : ReturnMode) (s : State) :
    (State.ptaOpen line attempt mode s).clock = s.clock := by
  simp [State.ptaOpen]

@[simp] theorem State.ptaOpen_kept (line attempt : Nat) (mode : ReturnMode) (s : State) :
    (State.ptaOpen line attempt mode s).kept = s.kept := by
  simp [State.ptaOpen]

@[simp] theorem State.ptaAdmit_clock (c : ClosedShot) (s : State) :
    (State.ptaAdmit c s).clock = s.clock := by
  simp only [State.ptaAdmit]; (repeat' split) <;> simp [*]

@[simp] theorem State.ptaAdmit_kept (c : ClosedShot) (s : State) :
    (State.ptaAdmit c s).kept = s.kept := by
  simp only [State.ptaAdmit]; (repeat' split) <;> simp [*]

@[simp] theorem State.ptaTake_clock (c : ClosedShot) (s : State) :
    (State.ptaTake c s).clock = s.clock := by
  simp only [State.ptaTake]; (repeat' split) <;> simp [*]

@[simp] theorem State.ptaTake_kept (c : ClosedShot) (s : State) :
    (State.ptaTake c s).kept = s.kept := by
  simp only [State.ptaTake]; (repeat' split) <;> simp [*]

@[simp] theorem State.ptaFinish_clock (s : State) :
    (State.ptaFinish s).clock = s.clock := by
  simp only [State.ptaFinish]; (repeat' split) <;> simp [*]

@[simp] theorem State.ptaFinish_kept (s : State) :
    (State.ptaFinish s).kept = s.kept := by
  simp only [State.ptaFinish]; (repeat' split) <;> simp [*]

@[simp] theorem State.ptaEnd_clock (kind : EndKind) (line attempt : Nat) (s : State) :
    (State.ptaEnd kind line attempt s).clock = s.clock := by
  simp only [State.ptaEnd]; (repeat' split) <;> simp [*]

@[simp] theorem State.ptaEnd_kept (kind : EndKind) (line attempt : Nat) (s : State) :
    (State.ptaEnd kind line attempt s).kept = s.kept := by
  simp only [State.ptaEnd]; (repeat' split) <;> simp [*]

@[simp] theorem State.ptaRunEnd_clock (s : State) :
    (State.ptaRunEnd s).clock = s.clock := by
  simp [State.ptaRunEnd]

@[simp] theorem State.ptaRunEnd_kept (s : State) :
    (State.ptaRunEnd s).kept = s.kept := by
  simp [State.ptaRunEnd]

@[simp] theorem State.closeMissing_clock (sh : Shot) (s : State) :
    (State.closeMissing sh s).clock = s.clock := by
  simp [State.closeMissing]

@[simp] theorem State.closeMissing_kept (sh : Shot) (s : State) :
    (State.closeMissing sh s).kept = s.kept := by
  simp [State.closeMissing]

@[simp] theorem State.rguFire_clock (sh : Shot) (s : State) :
    (State.rguFire sh s).clock = s.clock := by
  simp only [State.rguFire]; (repeat' split) <;> simp [*]

@[simp] theorem State.rguFire_kept (sh : Shot) (s : State) :
    (State.rguFire sh s).kept = s.kept := by
  simp only [State.rguFire]; (repeat' split) <;> simp [*]

@[simp] theorem State.rguOpen_clock (line attempt : Nat) (watch : Bool) (s : State) :
    (State.rguOpen line attempt watch s).clock = s.clock := by
  simp [State.rguOpen]

@[simp] theorem State.rguOpen_kept (line attempt : Nat) (watch : Bool) (s : State) :
    (State.rguOpen line attempt watch s).kept = s.kept := by
  simp [State.rguOpen]

@[simp] theorem State.closeAllMissing_clock (l : List Shot) (s : State) : (State.closeAllMissing l s).clock = s.clock := by
  induction l generalizing s with
  | nil => rfl
  | cons a l ih => simp [State.closeAllMissing, ih]

@[simp] theorem State.rguEnd_clock (kind : EndKind) (line attempt : Nat) (s : State) :
    (State.rguEnd kind line attempt s).clock = s.clock := by
  simp [State.rguEnd]

@[simp] theorem State.closeAllMissing_kept (l : List Shot) (s : State) : (State.closeAllMissing l s).kept = s.kept := by
  induction l generalizing s with
  | nil => rfl
  | cons a l ih => simp [State.closeAllMissing, ih]

@[simp] theorem State.rguEnd_kept (kind : EndKind) (line attempt : Nat) (s : State) :
    (State.rguEnd kind line attempt s).kept = s.kept := by
  simp [State.rguEnd]

@[simp] theorem State.rguRunEnd_clock (s : State) :
    (State.rguRunEnd s).clock = s.clock := by
  simp [State.rguRunEnd]

@[simp] theorem State.rguRunEnd_kept (s : State) :
    (State.rguRunEnd s).kept = s.kept := by
  simp [State.rguRunEnd]

@[simp] theorem State.closeBySet_clock (e : EchoSet) (older : List Shot) (sh : Shot) (younger : List Shot) (s : State) :
    (State.closeBySet e older sh younger s).1.clock = s.clock := by
  simp [State.closeBySet]

@[simp] theorem State.closeBySet_kept (e : EchoSet) (older : List Shot) (sh : Shot) (younger : List Shot) (s : State) :
    (State.closeBySet e older sh younger s).1.kept = s.kept := by
  simp [State.closeBySet]

@[simp] theorem State.takeSet_clock (e : EchoSet) (s : State) :
    (State.takeSet e s).1.clock = s.clock := by
  simp only [State.takeSet]; (repeat' split) <;> simp [*]

@[simp] theorem State.takeSet_kept (e : EchoSet) (s : State) :
    (State.takeSet e s).1.kept = s.kept := by
  simp only [State.takeSet]; (repeat' split) <;> simp [*]

@[simp] theorem State.expose_clock (s : State) :
    (State.expose s).clock = s.clock := by
  simp [State.expose]

@[simp] theorem State.expose_kept (s : State) :
    (State.expose s).kept = s.kept := by
  simp [State.expose]

@[simp] theorem State.checkGrant_clock (s : State) :
    (State.checkGrant s).clock = s.clock := by
  simp only [State.checkGrant]; (repeat' split) <;> simp [*]

@[simp] theorem State.checkGrant_kept (s : State) :
    (State.checkGrant s).kept = s.kept := by
  simp only [State.checkGrant]; (repeat' split) <;> simp [*]

@[simp] theorem State.endSettle_clock (s : State) :
    (State.endSettle s).clock = s.clock := by
  simp [State.endSettle]

@[simp] theorem State.endSettle_kept (s : State) :
    (State.endSettle s).kept = s.kept := by
  simp [State.endSettle]

@[simp] theorem State.enterSettle_clock (m : CameraSet) (s : State) :
    (State.enterSettle m s).clock = s.clock := by
  simp only [State.enterSettle]; (repeat' split) <;> simp [*]

@[simp] theorem State.enterSettle_kept (m : CameraSet) (s : State) :
    (State.enterSettle m s).kept = s.kept := by
  simp only [State.enterSettle]; (repeat' split) <;> simp [*]

@[simp] theorem State.photoRequest_clock (m : CameraSet) (s : State) :
    (State.photoRequest m s).1.clock = s.clock := by
  simp only [State.photoRequest]; (repeat' split) <;> simp [*]

@[simp] theorem State.photoRequest_kept (m : CameraSet) (s : State) :
    (State.photoRequest m s).1.kept = s.kept := by
  simp only [State.photoRequest]; (repeat' split) <;> simp [*]

@[simp] theorem State.offerPhotos_clock (l : List Photo) (s : State) : (State.offerPhotos l s).clock = s.clock := by
  induction l generalizing s with
  | nil => rfl
  | cons a l ih => unfold State.offerPhotos; split <;> simp [ih]

@[simp] theorem State.queuePhotos_clock (ps : List Photo) (s : State) :
    (State.queuePhotos ps s).clock = s.clock := by
  simp only [State.queuePhotos]; (repeat' split) <;> simp [*]

@[simp] theorem State.offerPhotos_kept (l : List Photo) (s : State) : (State.offerPhotos l s).kept = s.kept := by
  induction l generalizing s with
  | nil => rfl
  | cons a l ih => unfold State.offerPhotos; split <;> simp [ih]

@[simp] theorem State.queuePhotos_kept (ps : List Photo) (s : State) :
    (State.queuePhotos ps s).kept = s.kept := by
  simp only [State.queuePhotos]; (repeat' split) <;> simp [*]

@[simp] theorem State.release_clock (s : State) :
    (State.release s).clock = s.clock := by
  simp [State.release]

@[simp] theorem State.release_kept (s : State) :
    (State.release s).kept = s.kept := by
  simp [State.release]

@[simp] theorem State.idleIfDrained_clock (s : State) :
    (State.idleIfDrained s).clock = s.clock := by
  simp only [State.idleIfDrained]; (repeat' split) <;> simp [*]

@[simp] theorem State.idleIfDrained_kept (s : State) :
    (State.idleIfDrained s).kept = s.kept := by
  simp only [State.idleIfDrained]; (repeat' split) <;> simp [*]

@[simp] theorem State.photoAbort_clock (s : State) :
    (State.photoAbort s).clock = s.clock := by
  simp only [State.photoAbort]; (repeat' split) <;> simp [*]

@[simp] theorem State.photoAbort_kept (s : State) :
    (State.photoAbort s).kept = s.kept := by
  simp only [State.photoAbort]; (repeat' split) <;> simp [*]

@[simp] theorem State.beaconNotice_clock (station : Nat) (listed firing : Bool) (s : State) :
    (State.beaconNotice station listed firing s).clock = s.clock := by
  simp only [State.beaconNotice]; (repeat' split) <;> simp [*]

@[simp] theorem State.beaconNotice_kept (station : Nat) (listed firing : Bool) (s : State) :
    (State.beaconNotice station listed firing s).kept = s.kept := by
  simp only [State.beaconNotice]; (repeat' split) <;> simp [*]

@[simp] theorem State.removalNotice_clock (station : Nat) (s : State) :
    (State.removalNotice station s).clock = s.clock := by
  simp only [State.removalNotice]; (repeat' split) <;> simp [*]

@[simp] theorem State.removalNotice_kept (station : Nat) (s : State) :
    (State.removalNotice station s).kept = s.kept := by
  simp only [State.removalNotice]; (repeat' split) <;> simp [*]

@[simp] theorem State.quietSent_clock (inGrantWait : Bool) (s : State) :
    (State.quietSent inGrantWait s).clock = s.clock := by
  simp only [State.quietSent]; (repeat' split) <;> simp [*]

@[simp] theorem State.quietSent_kept (inGrantWait : Bool) (s : State) :
    (State.quietSent inGrantWait s).kept = s.kept := by
  simp only [State.quietSent]; (repeat' split) <;> simp [*]

@[simp] theorem State.enterJoining_clock (s : State) :
    (State.enterJoining s).clock = s.clock := by
  simp [State.enterJoining]

@[simp] theorem State.enterJoining_kept (s : State) :
    (State.enterJoining s).kept = s.kept := by
  simp [State.enterJoining]

@[simp] theorem State.leaveEnded_clock (s : State) :
    (State.leaveEnded s).clock = s.clock := by
  simp only [State.leaveEnded]; (repeat' split) <;> simp [*]

@[simp] theorem State.leaveEnded_kept (s : State) :
    (State.leaveEnded s).kept = s.kept := by
  simp only [State.leaveEnded]; (repeat' split) <;> simp [*]

@[simp] theorem State.emptyTable_clock (s : State) :
    (State.emptyTable s).clock = s.clock := by
  simp [State.emptyTable]

@[simp] theorem State.emptyTable_kept (s : State) :
    (State.emptyTable s).kept = s.kept := by
  simp [State.emptyTable]

@[simp] theorem State.emtOpen_clock (line attempt : Nat) (g : Segment) (s : State) :
    (State.emtOpen line attempt g s).clock = s.clock := by
  simp [State.emtOpen]

@[simp] theorem State.emtOpen_kept (line attempt : Nat) (g : Segment) (s : State) :
    (State.emtOpen line attempt g s).kept = s.kept := by
  simp [State.emtOpen]

@[simp] theorem State.emtClose_clock (s : State) :
    (State.emtClose s).clock = s.clock := by
  simp [State.emtClose]

@[simp] theorem State.emtClose_kept (s : State) :
    (State.emtClose s).kept = s.kept := by
  simp [State.emtClose]

@[simp] theorem State.emitFall_clock (s : State) :
    (State.emitFall s).clock = s.clock := by
  simp only [State.emitFall]; (repeat' split) <;> simp [*]

@[simp] theorem State.emitFall_kept (s : State) :
    (State.emitFall s).kept = s.kept := by
  simp only [State.emitFall]; (repeat' split) <;> simp [*]

@[simp] theorem State.emtRunEnd_clock (s : State) :
    (State.emtRunEnd s).clock = s.clock := by
  simp [State.emtRunEnd]

@[simp] theorem State.emtRunEnd_kept (s : State) :
    (State.emtRunEnd s).kept = s.kept := by
  simp [State.emtRunEnd]

@[simp] theorem State.placeRecord_clock (r : Record) (s : State) :
    (State.placeRecord r s).clock = s.clock := by
  simp only [State.placeRecord]; (repeat' split) <;> simp [*]

@[simp] theorem State.placeRecord_kept (r : Record) (s : State) :
    (State.placeRecord r s).kept = s.kept := by
  simp only [State.placeRecord]; (repeat' split) <;> simp [*]

@[simp] theorem State.closeNotice_clock (s : State) :
    (State.closeNotice s).clock = s.clock := by
  simp [State.closeNotice]

@[simp] theorem State.closeNotice_kept (s : State) :
    (State.closeNotice s).kept = s.kept := by
  simp [State.closeNotice]

@[simp] theorem State.orderDrawn_clock (s : State) :
    (State.orderDrawn s).clock = s.clock := by
  simp only [State.orderDrawn]; (repeat' split) <;> simp [*]

@[simp] theorem State.orderDrawn_kept (s : State) :
    (State.orderDrawn s).kept = s.kept := by
  simp only [State.orderDrawn]; (repeat' split) <;> simp [*]

@[simp] theorem State.endNotices_clock (kind : EndKind) (a : AttemptRecord) (s : State) :
    (State.endNotices kind a s).clock = s.clock := by
  simp [State.endNotices]

@[simp] theorem State.endNotices_kept (kind : EndKind) (a : AttemptRecord) (s : State) :
    (State.endNotices kind a s).kept = s.kept := by
  simp [State.endNotices]

@[simp] theorem State.stopAttempt_clock (reason : AbandonReason) (s : State) :
    (State.stopAttempt reason s).clock = s.clock := by
  simp only [State.stopAttempt]; (repeat' split) <;> simp [*]

@[simp] theorem State.stopAttempt_kept (reason : AbandonReason) (s : State) :
    (State.stopAttempt reason s).kept = s.kept := by
  simp only [State.stopAttempt]; (repeat' split) <;> simp [*]

@[simp] theorem State.walkerRunEnd_clock (reason : AbandonReason) (s : State) :
    (State.walkerRunEnd reason s).clock = s.clock := by
  simp [State.walkerRunEnd]

@[simp] theorem State.walkerRunEnd_kept (reason : AbandonReason) (s : State) :
    (State.walkerRunEnd reason s).kept = s.kept := by
  simp [State.walkerRunEnd]

@[simp] theorem State.shotPathRunEnd_clock (s : State) :
    (State.shotPathRunEnd s).clock = s.clock := by
  simp [State.shotPathRunEnd]

@[simp] theorem State.shotPathRunEnd_kept (s : State) :
    (State.shotPathRunEnd s).kept = s.kept := by
  simp [State.shotPathRunEnd]

@[simp] theorem State.deviceReady_clock (s : State) :
    (State.deviceReady s).clock = s.clock := by
  simp [State.deviceReady]

@[simp] theorem State.deviceReady_kept (s : State) :
    (State.deviceReady s).kept = s.kept := by
  simp [State.deviceReady]

@[simp] theorem State.leaveLine_clock (s : State) :
    (State.leaveLine s).clock = s.clock := by
  simp [State.leaveLine]

@[simp] theorem State.leaveLine_kept (s : State) :
    (State.leaveLine s).kept = s.kept := by
  simp [State.leaveLine]

@[simp] theorem State.stopShots_clock (s : State) :
    (State.stopShots s).clock = s.clock := by
  simp only [State.stopShots]; (repeat' split) <;> simp [*]

@[simp] theorem State.stopShots_kept (s : State) :
    (State.stopShots s).kept = s.kept := by
  simp only [State.stopShots]; (repeat' split) <;> simp [*]

@[simp] theorem State.endByStop_clock (s : State) :
    (State.endByStop s).clock = s.clock := by
  simp [State.endByStop]

@[simp] theorem State.endByStop_kept (s : State) :
    (State.endByStop s).kept = s.kept := by
  simp [State.endByStop]

@[simp] theorem State.endByPlan_clock (s : State) :
    (State.endByPlan s).clock = s.clock := by
  simp [State.endByPlan]

@[simp] theorem State.endByPlan_kept (s : State) :
    (State.endByPlan s).kept = s.kept := by
  simp [State.endByPlan]

@[simp] theorem State.endByDuplicate_clock (s : State) :
    (State.endByDuplicate s).clock = s.clock := by
  simp [State.endByDuplicate]

@[simp] theorem State.endByDuplicate_kept (s : State) :
    (State.endByDuplicate s).kept = s.kept := by
  simp [State.endByDuplicate]

@[simp] theorem State.issueHead_clock (target : Nat) (s : State) :
    (State.issueHead target s).clock = s.clock := by
  simp [State.issueHead]

@[simp] theorem State.issueHead_kept (target : Nat) (s : State) :
    (State.issueHead target s).kept = s.kept := by
  simp [State.issueHead]

@[simp] theorem State.slewTo_clock (target : Nat) (s : State) :
    (State.slewTo target s).1.clock = s.clock := by
  simp [State.slewTo]

@[simp] theorem State.slewTo_kept (target : Nat) (s : State) :
    (State.slewTo target s).1.kept = s.kept := by
  simp [State.slewTo]

@[simp] theorem afterRequest_clock (r : State × Option Completion) : (afterRequest r).1.clock = r.1.clock := rfl

@[simp] theorem State.takePhoto_clock (m : CameraSet) (s : State) :
    (State.takePhoto m s).1.clock = s.clock := by
  simp [State.takePhoto]

@[simp] theorem afterRequest_kept (r : State × Option Completion) : (afterRequest r).1.kept = r.1.kept := rfl

@[simp] theorem State.takePhoto_kept (m : CameraSet) (s : State) :
    (State.takePhoto m s).1.kept = s.kept := by
  simp [State.takePhoto]

@[simp] theorem State.planDone_clock (s : State) :
    (State.planDone s).clock = s.clock := by
  simp [State.planDone]

@[simp] theorem State.planDone_kept (s : State) :
    (State.planDone s).kept = s.kept := by
  simp [State.planDone]

@[simp] theorem State.takeRecord_clock (i : Nat) (s : State) :
    (State.takeRecord i s).1.clock = s.clock := by
  simp only [State.takeRecord]; (repeat' split) <;> simp [*]

@[simp] theorem State.takeRecord_kept (i : Nat) (s : State) :
    (State.takeRecord i s).1.kept = s.kept := by
  simp only [State.takeRecord]; (repeat' split) <;> simp [*]

@[simp] theorem State.arrive_clock (s : State) :
    (State.arrive s).1.clock = s.clock := by
  simp only [State.arrive]; (repeat' split) <;> simp [*]

@[simp] theorem State.arrive_kept (s : State) :
    (State.arrive s).1.kept = s.kept := by
  simp only [State.arrive]; (repeat' split) <;> simp [*]

@[simp] theorem State.afterLine_clock (s : State) :
    (State.afterLine s).1.clock = s.clock := by
  simp only [State.afterLine]; (repeat' split) <;> simp [*]

@[simp] theorem State.afterLine_kept (s : State) :
    (State.afterLine s).1.kept = s.kept := by
  simp only [State.afterLine]; (repeat' split) <;> simp [*]

@[simp] theorem State.nextLine_clock (s : State) :
    (State.nextLine s).1.clock = s.clock := by
  simp only [State.nextLine]; (repeat' split) <;> simp [*]

@[simp] theorem State.nextLine_kept (s : State) :
    (State.nextLine s).1.kept = s.kept := by
  simp only [State.nextLine]; (repeat' split) <;> simp [*]

@[simp] theorem State.photoDone_clock (s : State) :
    (State.photoDone s).1.clock = s.clock := by
  simp only [State.photoDone]; (repeat' split) <;> simp [*]

@[simp] theorem State.photoDone_kept (s : State) :
    (State.photoDone s).1.kept = s.kept := by
  simp only [State.photoDone]; (repeat' split) <;> simp [*]

@[simp] theorem State.walkTask_clock (t : WalkTask) (s : State) : (State.walkTask t s).1.clock = s.clock := by
  cases t <;> simp [State.walkTask]

@[simp] theorem State.walkTasks_clock (n : Nat) (t : WalkTask) (s : State) : (State.walkTasks n t s).clock = s.clock := by
  induction n generalizing t s with
  | zero => rfl
  | succ n ih => unfold State.walkTasks; split <;> simp [ih]

@[simp] theorem State.walk_clock (t : WalkTask) (s : State) : (State.walk t s).clock = s.clock := by simp [State.walk]

@[simp] theorem State.runDeferred_clock (s : State) :
    (State.runDeferred s).clock = s.clock := by
  simp only [State.runDeferred]; (repeat' split) <;> simp [*]

@[simp] theorem State.walkTask_kept (t : WalkTask) (s : State) : (State.walkTask t s).1.kept = s.kept := by
  cases t <;> simp [State.walkTask]

@[simp] theorem State.walkTasks_kept (n : Nat) (t : WalkTask) (s : State) : (State.walkTasks n t s).kept = s.kept := by
  induction n generalizing t s with
  | zero => rfl
  | succ n ih => unfold State.walkTasks; split <;> simp [ih]

@[simp] theorem State.walk_kept (t : WalkTask) (s : State) : (State.walk t s).kept = s.kept := by simp [State.walk]

@[simp] theorem State.runDeferred_kept (s : State) :
    (State.runDeferred s).kept = s.kept := by
  simp only [State.runDeferred]; (repeat' split) <;> simp [*]

@[simp] theorem State.defer_clock (t : WalkTask) (s : State) :
    (State.defer t s).clock = s.clock := by
  simp [State.defer]

@[simp] theorem State.defer_kept (t : WalkTask) (s : State) :
    (State.defer t s).kept = s.kept := by
  simp [State.defer]

@[simp] theorem State.photoDrained_clock (s : State) :
    (State.photoDrained s).clock = s.clock := by
  simp only [State.photoDrained]; (repeat' split) <;> simp [*]

@[simp] theorem State.photoDrained_kept (s : State) :
    (State.photoDrained s).kept = s.kept := by
  simp only [State.photoDrained]; (repeat' split) <;> simp [*]

@[simp] theorem State.checkDrained_clock (s : State) :
    (State.checkDrained s).clock = s.clock := by
  simp only [State.checkDrained]; (repeat' split) <;> simp [*]

@[simp] theorem State.checkDrained_kept (s : State) :
    (State.checkDrained s).kept = s.kept := by
  simp only [State.checkDrained]; (repeat' split) <;> simp [*]

@[simp] theorem State.endLine_clock (a : AttemptRecord) (outcome : LineOutcome) (thinned : Bool) (fired offered : Nat) (s : State) :
    (State.endLine a outcome thinned fired offered s).clock = s.clock := by
  simp only [State.endLine]; (repeat' split) <;> simp [*]

@[simp] theorem State.endLine_kept (a : AttemptRecord) (outcome : LineOutcome) (thinned : Bool) (fired offered : Nat) (s : State) :
    (State.endLine a outcome thinned fired offered s).kept = s.kept := by
  simp only [State.endLine]; (repeat' split) <;> simp [*]

@[simp] theorem State.retryLine_clock (a : AttemptRecord) (reason : AbandonReason) (fired : Nat) (s : State) :
    (State.retryLine a reason fired s).clock = s.clock := by
  simp [State.retryLine]

@[simp] theorem State.retryLine_kept (a : AttemptRecord) (reason : AbandonReason) (fired : Nat) (s : State) :
    (State.retryLine a reason fired s).kept = s.kept := by
  simp [State.retryLine]

@[simp] theorem State.judgeAttempt_clock (a : AttemptRecord) (r : FinishReport) (s : State) :
    (State.judgeAttempt a r s).clock = s.clock := by
  simp only [State.judgeAttempt]; (repeat' split) <;> simp [*]

@[simp] theorem State.judgeAttempt_kept (a : AttemptRecord) (r : FinishReport) (s : State) :
    (State.judgeAttempt a r s).kept = s.kept := by
  simp only [State.judgeAttempt]; (repeat' split) <;> simp [*]

@[simp] theorem finishReportAct_clock (s : State) :
    (finishReportAct s).clock = s.clock := by
  simp only [finishReportAct]; (repeat' split) <;> simp [*]

@[simp] theorem finishReportAct_kept (s : State) :
    (finishReportAct s).kept = s.kept := by
  simp only [finishReportAct]; (repeat' split) <;> simp [*]

@[simp] theorem State.exhaustLine_clock (a : AttemptRecord) (fired : Nat) (s : State) :
    (State.exhaustLine a fired s).clock = s.clock := by
  simp [State.exhaustLine]

@[simp] theorem State.exhaustLine_kept (a : AttemptRecord) (fired : Nat) (s : State) :
    (State.exhaustLine a fired s).kept = s.kept := by
  simp [State.exhaustLine]

@[simp] theorem State.recordAbandoned_clock (reason : AbandonReason) (a : AttemptRecord) (fired : Nat) (s : State) :
    (State.recordAbandoned reason a fired s).clock = s.clock := by
  simp only [State.recordAbandoned]; (repeat' split) <;> simp [*]

@[simp] theorem State.recordAbandoned_kept (reason : AbandonReason) (a : AttemptRecord) (fired : Nat) (s : State) :
    (State.recordAbandoned reason a fired s).kept = s.kept := by
  simp only [State.recordAbandoned]; (repeat' split) <;> simp [*]

@[simp] theorem State.abandon_clock (reason : AbandonReason) (a : AttemptRecord) (s : State) :
    (State.abandon reason a s).clock = s.clock := by
  simp only [State.abandon]; (repeat' split) <;> simp [*]

@[simp] theorem State.abandon_kept (reason : AbandonReason) (a : AttemptRecord) (s : State) :
    (State.abandon reason a s).kept = s.kept := by
  simp only [State.abandon]; (repeat' split) <;> simp [*]

@[simp] theorem State.interrupt_clock (i : Interruption) (s : State) :
    (State.interrupt i s).clock = s.clock := by
  simp only [State.interrupt]; (repeat' split) <;> simp [*]

@[simp] theorem State.interrupt_kept (i : Interruption) (s : State) :
    (State.interrupt i s).kept = s.kept := by
  simp only [State.interrupt]; (repeat' split) <;> simp [*]

@[simp] theorem attemptLimitAct_clock (s : State) :
    (attemptLimitAct s).clock = s.clock := by
  simp only [attemptLimitAct]; (repeat' split) <;> simp [*]

@[simp] theorem attemptLimitAct_kept (s : State) :
    (attemptLimitAct s).kept = s.kept := by
  simp only [attemptLimitAct]; (repeat' split) <;> simp [*]

@[simp] theorem State.announceHold_clock (s : State) :
    (State.announceHold s).clock = s.clock := by
  simp only [State.announceHold]; (repeat' split) <;> simp [*]

@[simp] theorem State.announceHold_kept (s : State) :
    (State.announceHold s).kept = s.kept := by
  simp only [State.announceHold]; (repeat' split) <;> simp [*]

@[simp] theorem State.halt_clock (hit : ProximityHit) (a : AttemptRecord) (s : State) :
    (State.halt hit a s).clock = s.clock := by
  simp [State.halt]

@[simp] theorem State.halt_kept (hit : ProximityHit) (a : AttemptRecord) (s : State) :
    (State.halt hit a s).kept = s.kept := by
  simp [State.halt]

@[simp] theorem State.takeHit_clock (hit : ProximityHit) (s : State) :
    (State.takeHit hit s).clock = s.clock := by
  simp only [State.takeHit]; (repeat' split) <;> simp [*]

@[simp] theorem State.takeHit_kept (hit : ProximityHit) (s : State) :
    (State.takeHit hit s).kept = s.kept := by
  simp only [State.takeHit]; (repeat' split) <;> simp [*]

@[simp] theorem State.openAttempt_clock (g : Segment) (s : State) :
    (State.openAttempt g s).clock = s.clock := by
  simp [State.openAttempt]

@[simp] theorem State.openAttempt_kept (g : Segment) (s : State) :
    (State.openAttempt g s).kept = s.kept := by
  simp [State.openAttempt]

@[simp] theorem State.endAttempt_clock (a : AttemptRecord) (s : State) :
    (State.endAttempt a s).clock = s.clock := by
  simp [State.endAttempt]

@[simp] theorem State.endAttempt_kept (a : AttemptRecord) (s : State) :
    (State.endAttempt a s).kept = s.kept := by
  simp [State.endAttempt]

@[simp] theorem State.walkerIndex_clock (s : State) :
    (State.walkerIndex s).clock = s.clock := by
  simp only [State.walkerIndex]; (repeat' split) <;> simp [*]

@[simp] theorem State.walkerIndex_kept (s : State) :
    (State.walkerIndex s).kept = s.kept := by
  simp only [State.walkerIndex]; (repeat' split) <;> simp [*]

@[simp] theorem encoderIndexAct_clock (enc : Encoder) (level : Bool) (s : State) :
    (encoderIndexAct enc level s).clock = s.clock := by
  simp only [encoderIndexAct]; (repeat' split) <;> simp [*]

@[simp] theorem encoderIndexAct_kept (enc : Encoder) (level : Bool) (s : State) :
    (encoderIndexAct enc level s).kept = s.kept := by
  simp only [encoderIndexAct]; (repeat' split) <;> simp [*]

@[simp] theorem inPositionAct_clock (s : State) :
    (inPositionAct s).clock = s.clock := by
  simp only [inPositionAct]; (repeat' split) <;> simp [*]

@[simp] theorem inPositionAct_kept (s : State) :
    (inPositionAct s).kept = s.kept := by
  simp only [inPositionAct]; (repeat' split) <;> simp [*]

@[simp] theorem headFaultAct_clock (s : State) :
    (headFaultAct s).clock = s.clock := by
  simp only [headFaultAct]; (repeat' split) <;> simp [*]

@[simp] theorem headFaultAct_kept (s : State) :
    (headFaultAct s).kept = s.kept := by
  simp only [headFaultAct]; (repeat' split) <;> simp [*]

@[simp] theorem State.raiseEmit_clock (s : State) :
    (State.raiseEmit s).clock = s.clock := by
  simp only [State.raiseEmit]; (repeat' split) <;> simp [*]

@[simp] theorem State.raiseEmit_kept (s : State) :
    (State.raiseEmit s).kept = s.kept := by
  simp only [State.raiseEmit]; (repeat' split) <;> simp [*]

@[simp] theorem State.takeNotice_clock (n : Option Interruption) (s : State) :
    (State.takeNotice n s).clock = s.clock := by
  simp only [State.takeNotice]; (repeat' split) <;> simp [*]

@[simp] theorem State.takeNotice_kept (n : Option Interruption) (s : State) :
    (State.takeNotice n s).kept = s.kept := by
  simp only [State.takeNotice]; (repeat' split) <;> simp [*]

@[simp] theorem emitExpiryAct_clock (s : State) :
    (emitExpiryAct s).clock = s.clock := by
  simp only [emitExpiryAct]; (repeat' split) <;> simp [*]

@[simp] theorem emitExpiryAct_kept (s : State) :
    (emitExpiryAct s).kept = s.kept := by
  simp only [emitExpiryAct]; (repeat' split) <;> simp [*]

@[simp] theorem takeRaisedHit_clock (r : State × Option ProximityHit) : (takeRaisedHit r).clock = r.1.clock := by
  unfold takeRaisedHit; split <;> simp

@[simp] theorem State.completeSet_clock (e : EchoSet) (s : State) :
    (State.completeSet e s).clock = s.clock := by
  simp only [State.completeSet]; (repeat' split) <;> simp [*]

@[simp] theorem takeRaisedHit_kept (r : State × Option ProximityHit) : (takeRaisedHit r).kept = r.1.kept := by
  unfold takeRaisedHit; split <;> simp

@[simp] theorem State.completeSet_kept (e : EchoSet) (s : State) :
    (State.completeSet e s).kept = s.kept := by
  simp only [State.completeSet]; (repeat' split) <;> simp [*]

@[simp] theorem State.takeTransfers_clock (n : Nat) (s : State) : (State.takeTransfers n s).clock = s.clock := by
  induction n generalizing s with
  | zero => rfl
  | succ n ih => unfold State.takeTransfers; split <;> simp [ih]

@[simp] theorem echoSetAct_clock (header : Bool) (bytes : List Byte) (s : State) :
    (echoSetAct header bytes s).clock = s.clock := by
  simp [echoSetAct]

@[simp] theorem State.takeTransfers_kept (n : Nat) (s : State) : (State.takeTransfers n s).kept = s.kept := by
  induction n generalizing s with
  | zero => rfl
  | succ n ih => unfold State.takeTransfers; split <;> simp [ih]

@[simp] theorem echoSetAct_kept (header : Bool) (bytes : List Byte) (s : State) :
    (echoSetAct header bytes s).kept = s.kept := by
  simp [echoSetAct]

@[simp] theorem settleEndAct_clock (s : State) :
    (settleEndAct s).clock = s.clock := by
  simp only [settleEndAct]; (repeat' split) <;> simp [*]

@[simp] theorem settleEndAct_kept (s : State) :
    (settleEndAct s).kept = s.kept := by
  simp only [settleEndAct]; (repeat' split) <;> simp [*]

@[simp] theorem grantTimeoutAct_clock (s : State) :
    (grantTimeoutAct s).clock = s.clock := by
  simp only [grantTimeoutAct]; (repeat' split) <;> simp [*]

@[simp] theorem grantTimeoutAct_kept (s : State) :
    (grantTimeoutAct s).kept = s.kept := by
  simp only [grantTimeoutAct]; (repeat' split) <;> simp [*]

@[simp] theorem cameraEndAct_clock (camera : Nat) (s : State) :
    (cameraEndAct camera s).clock = s.clock := by
  simp only [cameraEndAct]; (repeat' split) <;> simp [*]

@[simp] theorem cameraEndAct_kept (camera : Nat) (s : State) :
    (cameraEndAct camera s).kept = s.kept := by
  simp only [cameraEndAct]; (repeat' split) <;> simp [*]

@[simp] theorem photoReleaseAct_clock (s : State) :
    (photoReleaseAct s).clock = s.clock := by
  simp only [photoReleaseAct]; (repeat' split) <;> simp [*]

@[simp] theorem photoReleaseAct_kept (s : State) :
    (photoReleaseAct s).kept = s.kept := by
  simp only [photoReleaseAct]; (repeat' split) <;> simp [*]

@[simp] theorem State.updatePeer_clock (station : Nat) (f : Peer → Peer) (s : State) :
    (State.updatePeer station f s).clock = s.clock := by
  simp only [State.updatePeer]; (repeat' split) <;> simp [*]

@[simp] theorem State.updatePeer_kept (station : Nat) (f : Peer → Peer) (s : State) :
    (State.updatePeer station f s).kept = s.kept := by
  simp only [State.updatePeer]; (repeat' split) <;> simp [*]

@[simp] theorem State.hear_clock (station : Nat) (spoken : Membership) (s : State) :
    (State.hear station spoken s).clock = s.clock := by
  simp only [State.hear]; (repeat' split) <;> simp [*]

@[simp] theorem State.hear_kept (station : Nat) (spoken : Membership) (s : State) :
    (State.hear station spoken s).kept = s.kept := by
  simp only [State.hear]; (repeat' split) <;> simp [*]

@[simp] theorem State.setPeerHold_clock (station : Nat) (on : Bool) (source : HoldSource) (s : State) :
    (State.setPeerHold station on source s).clock = s.clock := by
  simp only [State.setPeerHold]; (repeat' split) <;> simp [*]

@[simp] theorem State.setPeerHold_kept (station : Nat) (on : Bool) (source : HoldSource) (s : State) :
    (State.setPeerHold station on source s).kept = s.kept := by
  simp only [State.setPeerHold]; (repeat' split) <;> simp [*]

@[simp] theorem State.closeWindow_clock (station : Nat) (cause : CloseCause) (s : State) :
    (State.closeWindow station cause s).clock = s.clock := by
  simp only [State.closeWindow]; (repeat' split) <;> simp [*]

@[simp] theorem State.closeWindow_kept (station : Nat) (cause : CloseCause) (s : State) :
    (State.closeWindow station cause s).kept = s.kept := by
  simp only [State.closeWindow]; (repeat' split) <;> simp [*]

@[simp] theorem State.grantQuiet_clock (station w : Nat) (s : State) :
    (State.grantQuiet station w s).clock = s.clock := by
  simp only [State.grantQuiet]; (repeat' split) <;> simp [*]

@[simp] theorem State.grantQuiet_kept (station w : Nat) (s : State) :
    (State.grantQuiet station w s).kept = s.kept := by
  simp only [State.grantQuiet]; (repeat' split) <;> simp [*]

@[simp] theorem State.takeQuiet_clock (station w : Nat) (s : State) :
    (State.takeQuiet station w s).clock = s.clock := by
  simp only [State.takeQuiet]; (repeat' split) <;> simp [*]

@[simp] theorem State.takeQuiet_kept (station w : Nat) (s : State) :
    (State.takeQuiet station w s).kept = s.kept := by
  simp only [State.takeQuiet]; (repeat' split) <;> simp [*]

@[simp] theorem State.takeBeacon_clock (station : Nat) (firing hold listed : Bool) (s : State) :
    (State.takeBeacon station firing hold listed s).clock = s.clock := by
  simp [State.takeBeacon]

@[simp] theorem State.takeBeacon_kept (station : Nat) (firing hold listed : Bool) (s : State) :
    (State.takeBeacon station firing hold listed s).kept = s.kept := by
  simp [State.takeBeacon]

@[simp] theorem State.takeContents_clock (own station : Nat) (c : Contents) (s : State) :
    (State.takeContents own station c s).clock = s.clock := by
  simp only [State.takeContents]; (repeat' split) <;> simp [*]

@[simp] theorem State.takeContents_kept (own station : Nat) (c : Contents) (s : State) :
    (State.takeContents own station c s).kept = s.kept := by
  simp only [State.takeContents]; (repeat' split) <;> simp [*]

@[simp] theorem State.removePeer_clock (station : Nat) (cause : LossCause) (s : State) :
    (State.removePeer station cause s).clock = s.clock := by
  simp only [State.removePeer]; (repeat' split) <;> simp [*]

@[simp] theorem State.removePeer_kept (station : Nat) (cause : LossCause) (s : State) :
    (State.removePeer station cause s).kept = s.kept := by
  simp only [State.removePeer]; (repeat' split) <;> simp [*]

@[simp] theorem State.duplicate_clock (kind : FrameKind) (spoken : Membership) (s : State) :
    (State.duplicate kind spoken s).clock = s.clock := by
  simp [State.duplicate]

@[simp] theorem State.duplicate_kept (kind : FrameKind) (spoken : Membership) (s : State) :
    (State.duplicate kind spoken s).kept = s.kept := by
  simp [State.duplicate]

@[simp] theorem State.takeValid_clock (station : Nat) (c : Contents) (s : State) :
    (State.takeValid station c s).clock = s.clock := by
  simp only [State.takeValid]; (repeat' split) <;> simp [*]

@[simp] theorem State.takeValid_kept (station : Nat) (c : Contents) (s : State) :
    (State.takeValid station c s).kept = s.kept := by
  simp only [State.takeValid]; (repeat' split) <;> simp [*]

@[simp] theorem ageExpiryAct_clock (station : Nat) (s : State) :
    (ageExpiryAct station s).clock = s.clock := by
  simp only [ageExpiryAct]; (repeat' split) <;> simp [*]

@[simp] theorem ageExpiryAct_kept (station : Nat) (s : State) :
    (ageExpiryAct station s).kept = s.kept := by
  simp only [ageExpiryAct]; (repeat' split) <;> simp [*]

@[simp] theorem State.becomeLive_clock (s : State) :
    (State.becomeLive s).clock = s.clock := by
  simp [State.becomeLive]

@[simp] theorem State.becomeLive_kept (s : State) :
    (State.becomeLive s).kept = s.kept := by
  simp [State.becomeLive]

@[simp] theorem State.tellLive_clock (s : State) :
    (State.tellLive s).clock = s.clock := by
  simp only [State.tellLive]; (repeat' split) <;> simp [*]

@[simp] theorem State.tellLive_kept (s : State) :
    (State.tellLive s).kept = s.kept := by
  simp only [State.tellLive]; (repeat' split) <;> simp [*]

@[simp] theorem joinExpiryAct_clock (s : State) :
    (joinExpiryAct s).clock = s.clock := by
  simp only [joinExpiryAct]; (repeat' split) <;> simp [*]

@[simp] theorem joinExpiryAct_kept (s : State) :
    (joinExpiryAct s).kept = s.kept := by
  simp only [joinExpiryAct]; (repeat' split) <;> simp [*]

@[simp] theorem windowExpiryAct_clock (station : Nat) (s : State) :
    (windowExpiryAct station s).clock = s.clock := by
  simp only [windowExpiryAct]; (repeat' split) <;> simp [*]

@[simp] theorem windowExpiryAct_kept (station : Nat) (s : State) :
    (windowExpiryAct station s).kept = s.kept := by
  simp only [windowExpiryAct]; (repeat' split) <;> simp [*]

@[simp] theorem accessExpiryAct_clock (s : State) :
    (accessExpiryAct s).clock = s.clock := by
  simp only [accessExpiryAct]; (repeat' split) <;> simp [*]

@[simp] theorem accessExpiryAct_kept (s : State) :
    (accessExpiryAct s).kept = s.kept := by
  simp only [accessExpiryAct]; (repeat' split) <;> simp [*]

@[simp] theorem State.sentNotice_clock (f : TxFrame) (s : State) :
    (State.sentNotice f s).clock = s.clock := by
  simp only [State.sentNotice]; (repeat' split) <;> simp [*]

@[simp] theorem State.sentNotice_kept (f : TxFrame) (s : State) :
    (State.sentNotice f s).kept = s.kept := by
  simp only [State.sentNotice]; (repeat' split) <;> simp [*]

@[simp] theorem State.endSending_clock (f : TxFrame) (s : State) :
    (State.endSending f s).clock = s.clock := by
  simp only [State.endSending]; (repeat' split) <;> simp [*]

@[simp] theorem State.endSending_kept (f : TxFrame) (s : State) :
    (State.endSending f s).kept = s.kept := by
  simp only [State.endSending]; (repeat' split) <;> simp [*]

@[simp] theorem sendingEndAct_clock (s : State) :
    (sendingEndAct s).clock = s.clock := by
  simp only [sendingEndAct]; (repeat' split) <;> simp [*]

@[simp] theorem sendingEndAct_kept (s : State) :
    (sendingEndAct s).kept = s.kept := by
  simp only [sendingEndAct]; (repeat' split) <;> simp [*]

@[simp] theorem carrierRiseAct_clock (s : State) :
    (carrierRiseAct s).clock = s.clock := by
  simp only [carrierRiseAct]; (repeat' split) <;> simp [*]

@[simp] theorem carrierRiseAct_kept (s : State) :
    (carrierRiseAct s).kept = s.kept := by
  simp only [carrierRiseAct]; (repeat' split) <;> simp [*]

@[simp] theorem carrierFallAct_clock (s : State) :
    (carrierFallAct s).clock = s.clock := by
  simp only [carrierFallAct]; (repeat' split) <;> simp [*]

@[simp] theorem carrierFallAct_kept (s : State) :
    (carrierFallAct s).kept = s.kept := by
  simp only [carrierFallAct]; (repeat' split) <;> simp [*]

@[simp] theorem jamExpiryAct_clock (s : State) :
    (jamExpiryAct s).clock = s.clock := by
  simp only [jamExpiryAct]; (repeat' split) <;> simp [*]

@[simp] theorem jamExpiryAct_kept (s : State) :
    (jamExpiryAct s).kept = s.kept := by
  simp only [jamExpiryAct]; (repeat' split) <;> simp [*]

@[simp] theorem beaconExpiryAct_clock (s : State) :
    (beaconExpiryAct s).clock = s.clock := by
  simp only [beaconExpiryAct]; (repeat' split) <;> simp [*]

@[simp] theorem beaconExpiryAct_kept (s : State) :
    (beaconExpiryAct s).kept = s.kept := by
  simp only [beaconExpiryAct]; (repeat' split) <;> simp [*]

@[simp] theorem leaveExpiryAct_clock (s : State) :
    (leaveExpiryAct s).clock = s.clock := by
  simp only [leaveExpiryAct]; (repeat' split) <;> simp [*]

@[simp] theorem leaveExpiryAct_kept (s : State) :
    (leaveExpiryAct s).kept = s.kept := by
  simp only [leaveExpiryAct]; (repeat' split) <;> simp [*]

@[simp] theorem State.takeJudged_clock (j : Except Discard (Nat × Contents)) (s : State) :
    (State.takeJudged j s).clock = s.clock := by
  simp only [State.takeJudged]; (repeat' split) <;> simp [*]

@[simp] theorem State.takeJudged_kept (j : Except Discard (Nat × Contents)) (s : State) :
    (State.takeJudged j s).kept = s.kept := by
  simp only [State.takeJudged]; (repeat' split) <;> simp [*]

@[simp] theorem State.completeFrame_clock (station kind : Byte) (payload : List Byte) (check : Word16) (s : State) :
    (State.completeFrame station kind payload check s).clock = s.clock := by
  simp [State.completeFrame]

@[simp] theorem State.completeFrame_kept (station kind : Byte) (payload : List Byte) (check : Word16) (s : State) :
    (State.completeFrame station kind payload check s).kept = s.kept := by
  simp [State.completeFrame]

@[simp] theorem State.huntByte_clock (preamble : Bool) (b : Byte) (s : State) :
    (State.huntByte preamble b s).clock = s.clock := by
  simp only [State.huntByte]; (repeat' split) <;> simp [*]

@[simp] theorem State.huntByte_kept (preamble : Bool) (b : Byte) (s : State) :
    (State.huntByte preamble b s).kept = s.kept := by
  simp only [State.huntByte]; (repeat' split) <;> simp [*]

@[simp] theorem State.headerBytes_clock (bs : List Byte) (s : State) :
    (State.headerBytes bs s).clock = s.clock := by
  simp only [State.headerBytes]; (repeat' split) <;> simp [*]

@[simp] theorem State.headerBytes_kept (bs : List Byte) (s : State) :
    (State.headerBytes bs s).kept = s.kept := by
  simp only [State.headerBytes]; (repeat' split) <;> simp [*]

@[simp] theorem State.bodyBytes_clock (bs : List Byte) (s : State) :
    (State.bodyBytes bs s).clock = s.clock := by
  simp only [State.bodyBytes]; (repeat' split) <;> simp [*]

@[simp] theorem State.bodyBytes_kept (bs : List Byte) (s : State) :
    (State.bodyBytes bs s).kept = s.kept := by
  simp only [State.bodyBytes]; (repeat' split) <;> simp [*]

@[simp] theorem State.goodByte_clock (b : Byte) (s : State) :
    (State.goodByte b s).clock = s.clock := by
  simp only [State.goodByte]; (repeat' split) <;> simp [*]

@[simp] theorem State.goodByte_kept (b : Byte) (s : State) :
    (State.goodByte b s).kept = s.kept := by
  simp only [State.goodByte]; (repeat' split) <;> simp [*]

@[simp] theorem siteByteAct_clock (byte : Byte) (stopBitOk : Bool) (s : State) :
    (siteByteAct byte stopBitOk s).clock = s.clock := by
  simp only [siteByteAct]; (repeat' split) <;> simp [*]

@[simp] theorem siteByteAct_kept (byte : Byte) (stopBitOk : Bool) (s : State) :
    (siteByteAct byte stopBitOk s).kept = s.kept := by
  simp only [siteByteAct]; (repeat' split) <;> simp [*]

@[simp] theorem byteGapAct_clock (s : State) :
    (byteGapAct s).clock = s.clock := by
  simp only [byteGapAct]; (repeat' split) <;> simp [*]

@[simp] theorem byteGapAct_kept (s : State) :
    (byteGapAct s).kept = s.kept := by
  simp only [byteGapAct]; (repeat' split) <;> simp [*]

@[simp] theorem State.wholeFrame_clock (station kind : Byte) (payload : List Byte) (check : Word16) (s : State) :
    (State.wholeFrame station kind payload check s).clock = s.clock := by
  simp only [State.wholeFrame]; (repeat' split) <;> simp [*]

@[simp] theorem State.wholeFrame_kept (station kind : Byte) (payload : List Byte) (check : Word16) (s : State) :
    (State.wholeFrame station kind payload check s).kept = s.kept := by
  simp only [State.wholeFrame]; (repeat' split) <;> simp [*]

@[simp] theorem siteFrameAct_clock (station kind : Byte) (payload : List Byte) (check : Word16) (s : State) :
    (siteFrameAct station kind payload check s).clock = s.clock := by
  simp only [siteFrameAct]; (repeat' split) <;> simp [*]

@[simp] theorem siteFrameAct_kept (station kind : Byte) (payload : List Byte) (check : Word16) (s : State) :
    (siteFrameAct station kind payload check s).kept = s.kept := by
  simp only [siteFrameAct]; (repeat' split) <;> simp [*]

@[simp] theorem State.admitReply_clock (r : Reply) (s : State) :
    (State.admitReply r s).clock = s.clock := by
  simp [State.admitReply]

@[simp] theorem State.admitReply_kept (r : Reply) (s : State) :
    (State.admitReply r s).kept = s.kept := by
  simp [State.admitReply]

@[simp] theorem State.admitWalker_clock (r : Record) (s : State) :
    (State.admitWalker r s).clock = s.clock := by
  simp [State.admitWalker]

@[simp] theorem State.admitWalker_kept (r : Record) (s : State) :
    (State.admitWalker r s).kept = s.kept := by
  simp [State.admitWalker]

@[simp] theorem State.admitPhoto_clock (p : Photo) (rest : List Photo) (s : State) :
    (State.admitPhoto p rest s).clock = s.clock := by
  simp [State.admitPhoto]

@[simp] theorem State.admitPhoto_kept (p : Photo) (rest : List Photo) (s : State) :
    (State.admitPhoto p rest s).kept = s.kept := by
  simp [State.admitPhoto]

@[simp] theorem State.serveEvents_clock (s : State) :
    (State.serveEvents s).clock = s.clock := by
  simp [State.serveEvents]

@[simp] theorem State.serveEvents_kept (s : State) :
    (State.serveEvents s).kept = s.kept := by
  simp [State.serveEvents]

@[simp] theorem State.freeEntry_clock (s : State) :
    (State.freeEntry s).clock = s.clock := by
  simp only [State.freeEntry]; (repeat' split) <;> simp [*]

@[simp] theorem State.freeEntry_kept (s : State) :
    (State.freeEntry s).kept = s.kept := by
  simp only [State.freeEntry]; (repeat' split) <;> simp [*]

@[simp] theorem State.depart_clock (s : State) :
    (State.depart s).clock = s.clock := by
  simp [State.depart]

@[simp] theorem State.depart_kept (s : State) :
    (State.depart s).kept = s.kept := by
  simp [State.depart]

@[simp] theorem reportWordAct_clock (s : State) :
    (reportWordAct s).clock = s.clock := by
  simp only [reportWordAct]; (repeat' split) <;> simp [*]

@[simp] theorem reportWordAct_kept (s : State) :
    (reportWordAct s).kept = s.kept := by
  simp only [reportWordAct]; (repeat' split) <;> simp [*]

@[simp] theorem State.setTable_clock (code : Nat) (v : List Int) (s : State) : (State.setTable code v s).clock = s.clock := by
  unfold State.setTable; split <;> simp

@[simp] theorem State.loadTable_clock (row : Nat) (s : State) :
    (State.loadTable row s).clock = s.clock := by
  simp only [State.loadTable]; (repeat' split) <;> simp [*]

@[simp] theorem State.setTable_kept (code : Nat) (v : List Int) (s : State) : (State.setTable code v s).kept = s.kept := by
  unfold State.setTable; split <;> simp

@[simp] theorem State.noteEvent_clock (e : Event) (s : State) :
    (State.noteEvent e s).clock = s.clock := by
  simp [State.noteEvent]

@[simp] theorem State.noteEvent_kept (e : Event) (s : State) :
    (State.noteEvent e s).kept = s.kept := by
  simp [State.noteEvent]

@[simp] theorem State.resetLoad_clock (row : Nat) (s : State) :
    (State.resetLoad row s).clock = s.clock := by
  simp only [State.resetLoad]; (repeat' split) <;> simp [*]

@[simp] theorem State.recordCause_clock (cause : ResetCause) (row : Option Nat) (s : State) :
    (State.recordCause cause row s).clock = s.clock := by
  simp [State.recordCause]

@[simp] theorem State.raiseReady_clock (s : State) :
    (State.raiseReady s).clock = s.clock := by
  simp [State.raiseReady]

@[simp] theorem State.raiseReady_kept (s : State) :
    (State.raiseReady s).kept = s.kept := by
  simp [State.raiseReady]

@[simp] theorem writeCompletionAct_clock (s : State) :
    (writeCompletionAct s).clock = s.clock := by
  simp only [writeCompletionAct]; (repeat' split) <;> simp [*]

@[simp] theorem State.judgeThresholds_clock (s : State) :
    (State.judgeThresholds s).clock = s.clock := by
  simp only [State.judgeThresholds]; (repeat' split) <;> simp [*]

@[simp] theorem State.judgeThresholds_kept (s : State) :
    (State.judgeThresholds s).kept = s.kept := by
  simp only [State.judgeThresholds]; (repeat' split) <;> simp [*]

@[simp] theorem State.configured_clock (new : Settings) (s : State) :
    (State.configured new s).clock = s.clock := by
  simp [State.configured]

@[simp] theorem configureAct_clock (entries : List SettingEntry) (s : State) :
    (configureAct entries s).clock = s.clock := by
  simp only [configureAct]; (repeat' split) <;> simp [*]

@[simp] theorem loadTableAct_clock (code : Byte) (contents : List Byte) (s : State) :
    (loadTableAct code contents s).clock = s.clock := by
  simp only [loadTableAct]; (repeat' split) <;> simp [*]

@[simp] theorem readTableAct_clock (code : Byte) (s : State) :
    (readTableAct code s).clock = s.clock := by
  simp only [readTableAct]; (repeat' split) <;> simp [*]

@[simp] theorem readTableAct_kept (code : Byte) (s : State) :
    (readTableAct code s).kept = s.kept := by
  simp only [readTableAct]; (repeat' split) <;> simp [*]

@[simp] theorem calStoreAct_clock (row : Byte) (s : State) :
    (calStoreAct row s).clock = s.clock := by
  simp only [calStoreAct]; (repeat' split) <;> simp [*]

@[simp] theorem State.reload_clock (row : Nat) (s : State) :
    (State.reload row s).clock = s.clock := by
  simp only [State.reload]; (repeat' split) <;> simp [*]

@[simp] theorem calReloadAct_clock (row : Byte) (s : State) :
    (calReloadAct row s).clock = s.clock := by
  simp only [calReloadAct]; (repeat' split) <;> simp [*]

@[simp] theorem planWriteAct_clock (start : Byte) (records : List (List Byte)) (s : State) :
    (planWriteAct start records s).clock = s.clock := by
  simp only [planWriteAct]; (repeat' split) <;> simp [*]

@[simp] theorem planWriteAct_kept (start : Byte) (records : List (List Byte)) (s : State) :
    (planWriteAct start records s).kept = s.kept := by
  simp only [planWriteAct]; (repeat' split) <;> simp [*]

@[simp] theorem planReadAct_clock (start count : Byte) (s : State) :
    (planReadAct start count s).clock = s.clock := by
  simp only [planReadAct]; (repeat' split) <;> simp [*]

@[simp] theorem planReadAct_kept (start count : Byte) (s : State) :
    (planReadAct start count s).kept = s.kept := by
  simp only [planReadAct]; (repeat' split) <;> simp [*]

@[simp] theorem State.joinLine_clock (s : State) :
    (State.joinLine s).clock = s.clock := by
  simp only [State.joinLine]; (repeat' split) <;> simp [*]

@[simp] theorem State.joinLine_kept (s : State) :
    (State.joinLine s).kept = s.kept := by
  simp only [State.joinLine]; (repeat' split) <;> simp [*]

@[simp] theorem Emt.start_fire (c : Settings) (now : Nat) (x : Emt) : (x.start c now).fire = x.fire := rfl

@[simp] theorem State.beginRun_clock (index : Nat) (s : State) : (State.beginRun index s).clock = s.clock := by
  unfold State.beginRun
  simp only [State.joinLine_clock, State.withPwk_clock, State.withRgu_clock]
  exact (State.withEmt_clock _ _ rfl).trans rfl

@[simp] theorem State.beginRun_kept (index : Nat) (s : State) :
    (State.beginRun index s).kept = s.kept := by
  simp [State.beginRun]

@[simp] theorem startAct_clock (index : Byte) (s : State) :
    (startAct index s).clock = s.clock := by
  simp only [startAct]; (repeat' split) <;> simp [*]

@[simp] theorem startAct_kept (index : Byte) (s : State) :
    (startAct index s).kept = s.kept := by
  simp only [startAct]; (repeat' split) <;> simp [*]

@[simp] theorem stopAct_clock (s : State) :
    (stopAct s).clock = s.clock := by
  simp only [stopAct]; (repeat' split) <;> simp [*]

@[simp] theorem stopAct_kept (s : State) :
    (stopAct s).kept = s.kept := by
  simp only [stopAct]; (repeat' split) <;> simp [*]

@[simp] theorem pauseAct_clock (s : State) :
    (pauseAct s).clock = s.clock := by
  simp only [pauseAct]; (repeat' split) <;> simp [*]

@[simp] theorem pauseAct_kept (s : State) :
    (pauseAct s).kept = s.kept := by
  simp only [pauseAct]; (repeat' split) <;> simp [*]

@[simp] theorem State.endHalt_clock (s : State) :
    (State.endHalt s).clock = s.clock := by
  simp [State.endHalt]

@[simp] theorem State.endHalt_kept (s : State) :
    (State.endHalt s).kept = s.kept := by
  simp [State.endHalt]

@[simp] theorem State.endPause_clock (s : State) :
    (State.endPause s).clock = s.clock := by
  simp [State.endPause]

@[simp] theorem State.endPause_kept (s : State) :
    (State.endPause s).kept = s.kept := by
  simp [State.endPause]

@[simp] theorem State.continueWalker_clock (s : State) :
    (State.continueWalker s).2.clock = s.clock := by
  simp only [State.continueWalker]; (repeat' split) <;> simp [*]

@[simp] theorem State.continueWalker_kept (s : State) :
    (State.continueWalker s).2.kept = s.kept := by
  simp only [State.continueWalker]; (repeat' split) <;> simp [*]

@[simp] theorem continueAct_clock (s : State) :
    (continueAct s).clock = s.clock := by
  simp only [continueAct]; (repeat' split) <;> simp [*]

@[simp] theorem continueAct_kept (s : State) :
    (continueAct s).kept = s.kept := by
  simp only [continueAct]; (repeat' split) <;> simp [*]

@[simp] theorem statusAct_clock (s : State) :
    (statusAct s).clock = s.clock := by
  simp [statusAct]

@[simp] theorem statusAct_kept (s : State) :
    (statusAct s).kept = s.kept := by
  simp [statusAct]

@[simp] theorem peersAct_clock (s : State) :
    (peersAct s).clock = s.clock := by
  simp [peersAct]

@[simp] theorem peersAct_kept (s : State) :
    (peersAct s).kept = s.kept := by
  simp [peersAct]

@[simp] theorem photosAct_clock (s : State) :
    (photosAct s).clock = s.clock := by
  simp [photosAct]

@[simp] theorem photosAct_kept (s : State) :
    (photosAct s).kept = s.kept := by
  simp [photosAct]

@[simp] theorem State.dropLane_clock (n : Nat) (s : State) :
    (State.dropLane n s).clock = s.clock := by
  simp [State.dropLane]

@[simp] theorem State.dropLane_kept (n : Nat) (s : State) :
    (State.dropLane n s).kept = s.kept := by
  simp [State.dropLane]

@[simp] theorem State.frameEnded_clock (s : State) :
    (State.frameEnded s).clock = s.clock := by
  simp [State.frameEnded]

@[simp] theorem State.frameEnded_kept (s : State) :
    (State.frameEnded s).kept = s.kept := by
  simp [State.frameEnded]

@[simp] theorem State.drawnFor_clock (i : Instr) (s : State) :
    (State.drawnFor i s).clock = s.clock := by
  simp only [State.drawnFor]; (repeat' split) <;> simp [*]

@[simp] theorem State.drawnFor_kept (i : Instr) (s : State) :
    (State.drawnFor i s).kept = s.kept := by
  simp only [State.drawnFor]; (repeat' split) <;> simp [*]

@[simp] theorem laneDropAct_clock (s : State) :
    (laneDropAct s).clock = s.clock := by
  simp only [laneDropAct]; (repeat' split) <;> simp [*]

@[simp] theorem laneDropAct_kept (s : State) :
    (laneDropAct s).kept = s.kept := by
  simp only [laneDropAct]; (repeat' split) <;> simp [*]

@[simp] theorem laneGapAct_clock (s : State) :
    (laneGapAct s).clock = s.clock := by
  simp only [laneGapAct]; (repeat' split) <;> simp [*]

@[simp] theorem laneGapAct_kept (s : State) :
    (laneGapAct s).kept = s.kept := by
  simp only [laneGapAct]; (repeat' split) <;> simp [*]

theorem State.laneFrame_clock (frame : List Byte) (f : State → State) (s : State) (h : ∀ t, (f t).clock = t.clock) :
    (State.laneFrame frame f s).clock = s.clock := by
  unfold State.laneFrame; (repeat' split) <;> simp [h]

theorem State.commandFrame_clock (i : Instr) (f : State → State) (s : State) (h : ∀ t, (f t).clock = t.clock) :
    (State.commandFrame i f s).clock = s.clock := by
  unfold State.commandFrame; apply State.laneFrame_clock; intro t; split <;> simp [h]

@[simp] theorem badFrameAct_clock (frame : List Byte) (s : State) :
    (badFrameAct frame s).clock = s.clock := by
  unfold badFrameAct; split
  · exact State.laneFrame_clock _ _ _ (fun t => by simp)
  · rfl

theorem State.laneFrame_kept (frame : List Byte) (f : State → State) (s : State) (h : ∀ t, (f t).kept = t.kept) :
    (State.laneFrame frame f s).kept = s.kept := by
  unfold State.laneFrame; (repeat' split) <;> simp [h]

theorem State.commandFrame_kept (i : Instr) (f : State → State) (s : State) (h : ∀ t, (f t).kept = t.kept) :
    (State.commandFrame i f s).kept = s.kept := by
  unfold State.commandFrame; apply State.laneFrame_kept; intro t; split <;> simp [h]

@[simp] theorem badFrameAct_kept (frame : List Byte) (s : State) :
    (badFrameAct frame s).kept = s.kept := by
  unfold badFrameAct; split
  · exact State.laneFrame_kept _ _ _ (fun t => by simp)
  · rfl

end Sys2Proof.Machine
end

