-- ==== Sys2Proof/Laws/Peers.lean ====
section
/-! SUPPORT. The peer table's slots and the way of a valid frame to PRU (chapters 7 and 8). -/

namespace Sys2Proof.Machine

/-- The entry just written is read back. -/
theorem Pru.setPeer_peer (x : Pru) (n : Nat) (p : Option Peer) (h : 1 ≤ n) (h' : n ≤ 15) : (x.setPeer n p).peer n = p := by
  unfold Pru.peer Pru.setPeer
  have : ¬ n = 0 := by omega
  simp only [this, if_false]
  rw [Vector.getElem?_setIfInBounds_self_of_lt (by omega)]; rfl

/-- A slot keeps what was written last. -/
theorem Pru.setPeer_setPeer (x : Pru) (n : Nat) (p q : Option Peer) : (x.setPeer n p).setPeer n q = x.setPeer n q := by
  unfold Pru.setPeer
  split <;> rename_i h
  · rfl
  · simp

/-- The assembler in HUNT is left as it is. -/
theorem Slc.hunt_self (x : Slc) (h1 : x.assembler = .hunt false) (h2 : x.byteGap = none) : x.hunt = x := by
  unfold Slc.hunt; cases x; simp_all

/-- The bytes the check covers (R217). -/
theorem coveredBytes_eq (st k : Byte) (pl : List Byte) : coveredBytes st k pl = [st, k, BitVec.ofNat 8 pl.length] ++ pl := rfl

/-- A station number fits a byte. -/
theorem station_toNat (n : Nat) (h : n ≤ 15) : (BitVec.ofNat 8 n).toNat = n := by simp; omega

/-- Two bytes of W. -/
theorem unle_two (w : Nat) (h : w < 65536) : unle [BitVec.ofNat 8 w, BitVec.ofNat 8 (w / 256)] = w := by
  simp [unle]; omega

/-- A whole frame on a listening line whose assembler hunts (R135, R136). -/
theorem siteFrame_taken (s : State) (st k : Byte) (pl : List Byte) (ck : Word16) (hp : s.powered = true) (hl : s.slc.listening = true)
   (h1 : s.slc.assembler = .hunt false) (h2 : s.slc.byteGap = none) :
   exec (.siteFrameReceived st k pl ck) s = .next (if 17 < pl.length then s.withSlc { s.slc with counters := s.slc.counters.bump .form } else s.takeJudged (judgeSiteFrame st k pl ck)) := by
  show act _ s = _
  simp only [act, hp, if_true, siteFrameAct, hl, h1, Assembler.begins, and_self, State.wholeFrame, State.completeFrame, Slc.hunt_self _ h1 h2]
  rfl

/-- A frame with its own check, a station number in range and a payload that fits its kind is valid (R136). -/
theorem judgeSiteFrame_valid (st k : Byte) (pl : List Byte) (c : Contents) (kk) (h1 : 1 ≤ st.toNat) (h2 : st.toNat ≤ 15) (hk : frameKindOf k.toNat = some kk) (hc : parsePayload kk pl = some c) : judgeSiteFrame st k pl (crc16 ([st, k, BitVec.ofNat 8 pl.length] ++ pl)) = .ok (st.toNat, c) := by
  unfold judgeSiteFrame
  rw [coveredBytes_eq, if_neg (by simp), if_neg, hk]
  · simp only [hc]
  · rintro (h | h)
    · subst h; simp at h1
    · omega

/-- A valid frame goes to PRU at once (R136). -/
theorem siteFrame_valid (s : State) (n : Nat) (k : Byte) (pl : List Byte) (kk c) (hp : s.powered = true) (hl : s.slc.listening = true)
   (h1 : s.slc.assembler = .hunt false) (h2 : s.slc.byteGap = none) (h3 : 1 ≤ n) (h4 : n ≤ 15) (h5 : pl.length ≤ 17) (hk : frameKindOf k.toNat = some kk) (hc : parsePayload kk pl = some c) :
   exec (.siteFrameReceived (BitVec.ofNat 8 n) k pl (crc16 ([BitVec.ofNat 8 n, k, BitVec.ofNat 8 pl.length] ++ pl))) s = .next (s.takeValid n c) := by
  rw [siteFrame_taken s _ _ _ _ hp hl h1 h2, if_neg (by omega), judgeSiteFrame_valid _ _ _ c kk (by rw [station_toNat n h4]; exact h3) (by rw [station_toNat n h4]; exact h4) hk hc, station_toNat n h4]
  rfl

end Sys2Proof.Machine
end

