-- ==== Sys2Proof/Laws/PerInstr.lean ====
section
/-! SUPPORT. Laws stated per command (LAWS.json): the bytes of a command's frame (R208). -/

namespace Sys2Proof.Laws.Framing

open Sys2Proof.Machine

/-- The frame of a command (R208): a code of at most 15, sent as the first byte, then the payload length low byte first, the
payload, and the check over all of these low byte first; 5 bytes longer than its payload. A row that is no command frame has
the code 0. -/
def Statement (i : Instr) : Prop :=
  commandCode i ≤ 15 ∧ (encodeFrame i).length = 5 + (commandPayload i).length ∧
    encodeFrame i = [BitVec.ofNat 8 (commandCode i), BitVec.ofNat 8 (commandPayload i).length,
      BitVec.ofNat 8 ((commandPayload i).length / 256)] ++ commandPayload i ++
        checkBytes (crc16 (frameCovered (commandCode i) (commandPayload i)))

/-- The code is all that depends on the command. -/
theorem of_code (i : Instr) (h : commandCode i ≤ 15) : Statement i := by
  refine ⟨h, ?_, rfl⟩
  simp only [encodeFrame, frameBytes, frameCovered, checkBytes, le, List.length_append, List.length_cons, List.length_nil]
  omega

theorem powerOn (levels : InputLevels) : Statement (.powerOn levels) := of_code _ (show 0 ≤ 15 by decide)
theorem resetLine (levels : InputLevels) : Statement (.resetLine levels) := of_code _ (show 0 ≤ 15 by decide)
theorem encoderEdge (enc : Encoder) (a b : Bool) : Statement (.encoderEdge enc a b) := of_code _ (show 0 ≤ 15 by decide)
theorem encoderIndex (enc : Encoder) (level : Bool) : Statement (.encoderIndex enc level) := of_code _ (show 0 ≤ 15 by decide)
theorem absenceTimerExpiry : Statement (.absenceTimerExpiry) := of_code _ (show 0 ≤ 15 by decide)
theorem localTimeLimit : Statement (.localTimeLimit) := of_code _ (show 0 ≤ 15 by decide)
theorem scheduledInstant : Statement (.scheduledInstant) := of_code _ (show 0 ≤ 15 by decide)
theorem firePulseEnd : Statement (.firePulseEnd) := of_code _ (show 0 ≤ 15 by decide)
theorem emitExpiry : Statement (.emitExpiry) := of_code _ (show 0 ≤ 15 by decide)
theorem echoSet (transfer : EchoTransfer) : Statement (.echoSet transfer) := of_code _ (show 0 ≤ 15 by decide)
theorem finishReport : Statement (.finishReport) := of_code _ (show 0 ≤ 15 by decide)
theorem attemptLimitExpiry : Statement (.attemptLimitExpiry) := of_code _ (show 0 ≤ 15 by decide)
theorem inPositionRise : Statement (.inPositionRise) := of_code _ (show 0 ≤ 15 by decide)
theorem headFaultTimerExpiry : Statement (.headFaultTimerExpiry) := of_code _ (show 0 ≤ 15 by decide)
theorem settleEnd : Statement (.settleEnd) := of_code _ (show 0 ≤ 15 by decide)
theorem grantTimeout : Statement (.grantTimeout) := of_code _ (show 0 ≤ 15 by decide)
theorem cameraExposureEnd (camera : Nat) : Statement (.cameraExposureEnd camera) := of_code _ (show 0 ≤ 15 by decide)
theorem photoRelease : Statement (.photoRelease) := of_code _ (show 0 ≤ 15 by decide)
theorem carrierSenseRise : Statement (.carrierSenseRise) := of_code _ (show 0 ≤ 15 by decide)
theorem carrierSenseFall : Statement (.carrierSenseFall) := of_code _ (show 0 ≤ 15 by decide)
theorem accessTimerExpiry : Statement (.accessTimerExpiry) := of_code _ (show 0 ≤ 15 by decide)
theorem sendingEnd : Statement (.sendingEnd) := of_code _ (show 0 ≤ 15 by decide)
theorem jamTimerExpiry : Statement (.jamTimerExpiry) := of_code _ (show 0 ≤ 15 by decide)
theorem beaconTimerExpiry : Statement (.beaconTimerExpiry) := of_code _ (show 0 ≤ 15 by decide)
theorem leaveTimerExpiry : Statement (.leaveTimerExpiry) := of_code _ (show 0 ≤ 15 by decide)
theorem siteFrameReceived (station kind : Byte) (payload : List Byte) (check : Word16) : Statement (.siteFrameReceived station kind payload check) := of_code _ (show 0 ≤ 15 by decide)
theorem byteGapExpiry : Statement (.byteGapExpiry) := of_code _ (show 0 ≤ 15 by decide)
theorem ageTimerExpiry (station : Nat) : Statement (.ageTimerExpiry station) := of_code _ (show 0 ≤ 15 by decide)
theorem joinTimerExpiry : Statement (.joinTimerExpiry) := of_code _ (show 0 ≤ 15 by decide)
theorem quietWindowExpiry (station : Nat) : Statement (.quietWindowExpiry station) := of_code _ (show 0 ≤ 15 by decide)
theorem reportWordTaken : Statement (.reportWordTaken) := of_code _ (show 0 ≤ 15 by decide)
theorem laneByteDropped : Statement (.laneByteDropped) := of_code _ (show 0 ≤ 15 by decide)
theorem laneGapExpiry : Statement (.laneGapExpiry) := of_code _ (show 0 ≤ 15 by decide)
theorem badFrame (frame : List Byte) : Statement (.badFrame frame) := of_code _ (show 0 ≤ 15 by decide)
theorem configure (entries : List SettingEntry) : Statement (.configure entries) := of_code _ (show 1 ≤ 15 by decide)
theorem loadTable (code : Byte) (contents : List Byte) : Statement (.loadTable code contents) := of_code _ (show 2 ≤ 15 by decide)
theorem readTable (code : Byte) : Statement (.readTable code) := of_code _ (show 3 ≤ 15 by decide)
theorem calStore (row : Byte) : Statement (.calStore row) := of_code _ (show 4 ≤ 15 by decide)
theorem writeCompletion : Statement (.writeCompletion) := of_code _ (show 0 ≤ 15 by decide)
theorem calReload (row : Byte) : Statement (.calReload row) := of_code _ (show 5 ≤ 15 by decide)
theorem planWrite (start : Byte) (records : List (List Byte)) : Statement (.planWrite start records) := of_code _ (show 6 ≤ 15 by decide)
theorem planRead (start count : Byte) : Statement (.planRead start count) := of_code _ (show 7 ≤ 15 by decide)
theorem start (index : Byte) : Statement (.start index) := of_code _ (show 8 ≤ 15 by decide)
theorem stop : Statement (.stop) := of_code _ (show 9 ≤ 15 by decide)
theorem pause : Statement (.pause) := of_code _ (show 10 ≤ 15 by decide)
theorem continueRun : Statement (.continueRun) := of_code _ (show 11 ≤ 15 by decide)
theorem status : Statement (.status) := of_code _ (show 12 ≤ 15 by decide)
theorem peers : Statement (.peers) := of_code _ (show 13 ≤ 15 by decide)
theorem photos : Statement (.photos) := of_code _ (show 14 ≤ 15 by decide)
theorem reset (levels : InputLevels) : Statement (.reset levels) := of_code _ (show 15 ≤ 15 by decide)
theorem siteByteReceived (byte : Byte) (stopBitOk : Bool) : Statement (.siteByteReceived byte stopBitOk) := of_code _ (show 0 ≤ 15 by decide)
theorem laneByteReceived (byte : Byte) : Statement (.laneByteReceived byte) := of_code _ (show 0 ≤ 15 by decide)
theorem powerLoss : Statement (.powerLoss) := of_code _ (show 0 ≤ 15 by decide)

end Sys2Proof.Laws.Framing
end

