-- ==== Sys2Proof/Laws/Report.lean ====
section
/-! SUPPORT. The report stream's bounds (R174, R175, R181) through its own operations and then through every operation that
offers a record or raises an event: each keeps State.ReportSound. -/

namespace Sys2Proof.Machine

/-! ## The report stream's own operations -/

theorem insertEvent_head (e : Event) (now : Nat) (es : List PendingEvent) (k : Nat) (hk : k < e.kind)
    (h : ∀ p ∈ es, k < p.event.kind) : ∀ p ∈ insertEvent e now es, k < p.event.kind := by
  induction es with
  | nil => simp [insertEvent, hk]
  | cons q qs ih =>
    unfold insertEvent
    split
    · intro p hp; simp at hp; rcases hp with rfl | rfl | hp
      · exact hk
      · exact h _ (by simp)
      · exact h _ (by simp [hp])
    · split
      · intro p hp; simp at hp; rcases hp with rfl | hp
        · exact hk
        · exact h _ (by simp [hp])
      · intro p hp; simp at hp; rcases hp with rfl | hp
        · exact h _ (by simp)
        · exact ih (fun p hp => h p (by simp [hp])) p hp

theorem insertEvent_inForm (e : Event) (now : Nat) (es : List PendingEvent) (h : eventsInForm es) :
    eventsInForm (insertEvent e now es) := by
  induction es with
  | nil => simp [insertEvent, eventsInForm]
  | cons q qs ih =>
    obtain ⟨hp, hc⟩ := h
    rw [List.pairwise_cons] at hp
    have ih := ih ⟨hp.2, fun e he => hc e (by simp [he])⟩
    unfold insertEvent
    split
    · refine ⟨?_, ?_⟩
      · rw [List.pairwise_cons]; refine ⟨?_, by rw [List.pairwise_cons]; exact hp⟩
        intro p hp'; simp at hp'; rcases hp' with rfl | hp'
        · assumption
        · have := hp.1 p hp'; simp; omega
      · intro x hx; simp at hx; rcases hx with rfl | rfl | hx
        · simp
        · exact hc _ (by simp)
        · exact hc _ (by simp [hx])
    · split
      · rename_i _ hk
        refine ⟨?_, ?_⟩
        · rw [List.pairwise_cons]; exact ⟨fun p hp' => by simpa [hk] using hp.1 p hp', hp.2⟩
        · intro x hx; simp at hx; rcases hx with rfl | hx
          · have := hc q (by simp); dsimp only; split <;> omega
          · exact hc _ (by simp [hx])
      · refine ⟨?_, ?_⟩
        · rw [List.pairwise_cons]; exact ⟨insertEvent_head _ _ _ _ (by omega) hp.1, ih.1⟩
        · intro x hx; simp at hx; rcases hx with rfl | hx
          · exact hc _ (by simp)
          · exact ih.2 _ hx

theorem Rps.note_sound (c : Settings) (now : Nat) (e : Event) (q : Rps) (h : q.Sound) : (Rps.note c now e q).Sound := by
  unfold Rps.note; split
  · exact h
  · exact ⟨h.1, h.2.1, insertEvent_inForm _ _ _ h.2.2⟩

theorem Rps.append_sound (c : Settings) (now : Nat) (r : Record) (q : Rps) (h : q.Sound) (hr : q.queue.length < queueCapacity)
    (hp : r.isPoint = true → q.queue.length < pointLimit) : (Rps.append c now r q).Sound := by
  have key : ∀ b p, (⟨q.queue ++ [r], b, q.events, p⟩ : Rps).Sound := by
    intro b p
    refine ⟨by simp; omega, ?_, h.2.2⟩
    have := List.countP_le_length (p := Record.isPoint) (l := q.queue)
    have h2 := h.2.1
    unfold Rps.points at *
    simp [List.countP_append, List.countP_singleton]
    split
    · have := hp (by assumption); omega
    · omega
  unfold Rps.append; dsimp only; split
  · exact Rps.note_sound _ _ _ _ (key _ _)
  · exact key _ _

theorem Rps.serveRounds_sound (c : Settings) (now n : Nat) (q : Rps) (h : q.Sound) : (Rps.serveRounds c now n q).Sound := by
  induction n generalizing q with
  | zero => exact h
  | succ n ih =>
    unfold Rps.serveRounds; split
    · exact h
    · rename_i e es he
      split
      · apply ih
        have : Rps.Sound { q with events := es } := by
          refine ⟨h.1, h.2.1, ?_⟩
          have := h.2.2; rw [he] at this
          exact ⟨(List.pairwise_cons.1 this.1).2, fun x hx => this.2 x (by simp [hx])⟩
        exact Rps.append_sound _ _ _ _ this (by simpa [Rps.room] using ‹q.room = true›) (by simp [Record.isPoint])
      · exact h

theorem Rps.serve_sound (c : Settings) (now : Nat) (q : Rps) (h : q.Sound) : (Rps.serve c now q).Sound :=
  Rps.serveRounds_sound _ _ _ _ h

theorem Rps.enter_sound (c : Settings) (now : Nat) (r : Record) (q : Rps) (h : q.Sound) (hr : q.room = true)
    (hp : r.isPoint = false) : (Rps.enter c now r q).Sound :=
  Rps.serve_sound _ _ _ (Rps.append_sound _ _ _ _ h (by simpa [Rps.room] using hr) (by simp [hp]))

theorem Rps.enter_point (c : Settings) (now : Nat) (r : Record) (q : Rps) (h : q.Sound) (hr : q.occupancy < pointLimit) :
    (Rps.enter c now r q).Sound :=
  Rps.serve_sound _ _ _ (Rps.append_sound _ _ _ _ h (by simp [Rps.occupancy, pointLimit, queueCapacity] at *; omega) (fun _ => hr))

/-! ## Updates of one block -/

@[simp] theorem State.withTime_rs (s : State) (x : Nat) : (s.withTime x).ReportSound = s.ReportSound := rfl
@[simp] theorem State.withAnu_rs (s : State) (x : Anu) : (s.withAnu x).ReportSound = s.ReportSound := rfl
@[simp] theorem State.withEmt_rs (s : State) (x : Emt) : (s.withEmt x).ReportSound = s.ReportSound := rfl
@[simp] theorem State.withRgu_rs (s : State) (x : Rgu) : (s.withRgu x).ReportSound = s.ReportSound := rfl
@[simp] theorem State.withPta_rs (s : State) (x : Pta) : (s.withPta x).ReportSound = s.ReportSound := rfl
@[simp] theorem State.withPhc_rs (s : State) (x : Phc) : (s.withPhc x).ReportSound = s.ReportSound := rfl
@[simp] theorem State.withSlc_rs (s : State) (x : Slc) : (s.withSlc x).ReportSound = s.ReportSound := rfl
@[simp] theorem State.withPru_rs (s : State) (x : Pru) : (s.withPru x).ReportSound = s.ReportSound := rfl
@[simp] theorem State.withCmu_rs (s : State) (x : Cmu) : (s.withCmu x).ReportSound = s.ReportSound := rfl
@[simp] theorem State.withCst_rs (s : State) (x : Cst) : (s.withCst x).ReportSound = s.ReportSound := rfl
@[simp] theorem State.withPending_rs (s : State) (x : List Instr) : (s.withPending x).ReportSound = s.ReportSound := rfl
@[simp] theorem State.drawn_rs (s : State) : s.drawn.ReportSound = s.ReportSound := rfl
@[simp] theorem State.withPwk_rs (s : State) (x : Pwk) (hs : s.ReportSound) (ho : x.outgoing = s.pwk.outgoing) :
    (s.withPwk x).ReportSound := ⟨hs.1, by simpa [ho] using hs.2⟩
theorem State.withPwk_none_rs (s : State) (x : Pwk) (hs : s.ReportSound) (ho : x.outgoing = none) :
    (s.withPwk x).ReportSound := ⟨hs.1, by simp [ho]⟩
theorem State.withPwk_some_rs (s : State) (x : Pwk) (r : Record) (hs : s.ReportSound) (ho : x.outgoing = some r)
    (hp : r.isPoint = false) : (s.withPwk x).ReportSound := ⟨hs.1, by simp [ho, hp]⟩
theorem State.withRps_rs (s : State) (x : Rps) (hs : s.ReportSound) (hx : x.Sound) : (s.withRps x).ReportSound := ⟨hx, hs.2⟩
@[simp] theorem Pwk.toIdle_outgoing (x : Pwk) : x.toIdle.outgoing = x.outgoing := rfl
@[simp] theorem Pwk.toLineWait_outgoing (x : Pwk) : x.toLineWait.outgoing = x.outgoing := by unfold Pwk.toLineWait; split <;> rfl
@[simp] theorem Pwk.haltFor_outgoing (reason : AbandonReason) (x : Pwk) : (x.haltFor reason).outgoing = x.outgoing := by
  unfold Pwk.haltFor; split <;> rfl
@[simp] theorem Pwk.lineDone_outgoing (x : Pwk) : x.lineDone.outgoing = x.outgoing := rfl
@[simp] theorem Pwk.countAttempt_outgoing (x : Pwk) : x.countAttempt.outgoing = x.outgoing := rfl
@[simp] theorem Pwk.arm_outgoing (i : Nat) (x : Pwk) : (x.arm i).outgoing = x.outgoing := rfl
@[simp] theorem Pwk.pause_outgoing (x : Pwk) : x.pause.outgoing = x.outgoing := by unfold Pwk.pause; split <;> rfl
@[simp] theorem State.enter_sound (r : Record) (s : State) (h : s.ReportSound) (hr : s.rps.room = true)
    (hp : (!r.isPoint) = true) : (s.enter r).ReportSound :=
  State.withRps_rs _ _ h (Rps.enter_sound _ _ _ _ h.1 hr (by simpa using hp))
@[simp] theorem State.raise_sound (e : Event) (s : State) (h : s.ReportSound) : (s.raise e).ReportSound :=
  State.withRps_rs _ _ h (Rps.serve_sound _ _ _ (Rps.note_sound _ _ _ _ h.1))
@[simp] theorem State.noteEvent_sound (e : Event) (s : State) (h : s.ReportSound) : (s.noteEvent e).ReportSound :=
  State.withRps_rs _ _ h (Rps.note_sound _ _ _ _ h.1)
@[simp] theorem State.serveEvents_sound (s : State) (h : s.ReportSound) : s.serveEvents.ReportSound :=
  State.withRps_rs _ _ h (Rps.serve_sound _ _ _ h.1)
@[simp] theorem isPoint_lineBegin (a b c d) : (Record.lineBegin a b c d).isPoint = false := rfl
@[simp] theorem isPoint_lineEnd (a b c d e f g h) : (Record.lineEnd a b c d e f g h).isPoint = false := rfl
@[simp] theorem isPoint_lineAbandoned (a b c d e) : (Record.lineAbandoned a b c d e).isPoint = false := rfl
@[simp] theorem isPoint_photo (a) : (Record.photo a).isPoint = false := rfl
@[simp] theorem isPoint_event (a) : (Record.event a).isPoint = false := rfl
@[simp] theorem isPoint_reply (a) : (Record.reply a).isPoint = false := rfl

@[simp] theorem State.raiseInRun_sound (e : Event) (s : State) (hs : s.ReportSound) :
    (State.raiseInRun e s).ReportSound := by
  simp only [State.raiseInRun]; (repeat' split) <;> simp -implicitDefEqProofs (maxDischargeDepth := 9) [*]

@[simp] theorem State.sendReply_sound (r : Reply) (s : State) (hs : s.ReportSound) :
    (State.sendReply r s).ReportSound := by
  simp only [State.sendReply]; (repeat' split) <;> simp -implicitDefEqProofs (maxDischargeDepth := 9) [*]

@[simp] theorem State.requestFrame_sound (k : FrameKind) (s : State) (hs : s.ReportSound) :
    (State.requestFrame k s).ReportSound := by
  simp only [State.requestFrame]; simp -implicitDefEqProofs (maxDischargeDepth := 9) [*]

@[simp] theorem State.requestBeacon_sound (s : State) (hs : s.ReportSound) :
    (State.requestBeacon s).ReportSound := by
  simp only [State.requestBeacon]; simp -implicitDefEqProofs (maxDischargeDepth := 9) [*]

@[simp] theorem State.raiseOption_sound (e : Option Event) (s : State) (hs : s.ReportSound) :
    (State.raiseOption e s).ReportSound := by
  simp only [State.raiseOption]; (repeat' split) <;> simp -implicitDefEqProofs (maxDischargeDepth := 9) [*]

@[simp] theorem State.anuIndex_sound (enc : Encoder) (s : State) (hs : s.ReportSound) :
    (State.anuIndex enc s).ReportSound := by
  simp only [State.anuIndex]; (repeat' split) <;> simp -implicitDefEqProofs (maxDischargeDepth := 9) [*]

@[simp] theorem encoderEdgeAct_sound (enc : Encoder) (a b : Bool) (s : State) (hs : s.ReportSound) :
    (encoderEdgeAct enc a b s).ReportSound := by
  simp only [encoderEdgeAct]; simp -implicitDefEqProofs (maxDischargeDepth := 9) [*]

@[simp] theorem absenceAct_sound (s : State) (hs : s.ReportSound) :
    (absenceAct s).ReportSound := by
  simp only [absenceAct]; (repeat' split) <;> simp -implicitDefEqProofs (maxDischargeDepth := 9) [*]

@[simp] theorem State.offerPoint_sound (ctx : PointContext) (p : PointRecord) (s : State) (h : s.ReportSound) : (State.offerPoint ctx p s).ReportSound := by
  unfold State.offerPoint; dsimp only; split
  · exact State.withRps_rs _ _ (by simpa using h) (Rps.enter_point _ _ _ _ h.1 (by assumption))
  · exact h

@[simp] theorem State.judgeShot_sound (left : Option ClosedShot) (h : ClosedShot) (right : Option ClosedShot) (s : State) (hs : s.ReportSound) :
    (State.judgeShot left h right s).ReportSound := by
  simp only [State.judgeShot]; (repeat' split) <;> simp -implicitDefEqProofs (maxDischargeDepth := 9) [*]

@[simp] theorem State.ptaOpen_sound (line attempt : Nat) (mode : ReturnMode) (s : State) (hs : s.ReportSound) :
    (State.ptaOpen line attempt mode s).ReportSound := by
  simp only [State.ptaOpen]; simp -implicitDefEqProofs (maxDischargeDepth := 9) [*]

@[simp] theorem State.ptaAdmit_sound (c : ClosedShot) (s : State) (hs : s.ReportSound) :
    (State.ptaAdmit c s).ReportSound := by
  simp only [State.ptaAdmit]; (repeat' split) <;> simp -implicitDefEqProofs (maxDischargeDepth := 9) [*]

@[simp] theorem State.ptaTake_sound (c : ClosedShot) (s : State) (hs : s.ReportSound) :
    (State.ptaTake c s).ReportSound := by
  simp only [State.ptaTake]; (repeat' split) <;> simp -implicitDefEqProofs (maxDischargeDepth := 9) [*]

@[simp] theorem State.ptaFinish_sound (s : State) (hs : s.ReportSound) :
    (State.ptaFinish s).ReportSound := by
  simp only [State.ptaFinish]; (repeat' split) <;> simp -implicitDefEqProofs (maxDischargeDepth := 9) [*]

@[simp] theorem State.ptaEnd_sound (kind : EndKind) (line attempt : Nat) (s : State) (hs : s.ReportSound) :
    (State.ptaEnd kind line attempt s).ReportSound := by
  simp only [State.ptaEnd]; (repeat' split) <;> simp -implicitDefEqProofs (maxDischargeDepth := 9) [*]

@[simp] theorem State.ptaRunEnd_sound (s : State) (hs : s.ReportSound) :
    (State.ptaRunEnd s).ReportSound := by
  simp only [State.ptaRunEnd]; simp -implicitDefEqProofs (maxDischargeDepth := 9) [*]

@[simp] theorem State.closeMissing_sound (sh : Shot) (s : State) (hs : s.ReportSound) :
    (State.closeMissing sh s).ReportSound := by
  simp only [State.closeMissing]; simp -implicitDefEqProofs (maxDischargeDepth := 9) [*]

@[simp] theorem State.rguFire_sound (sh : Shot) (s : State) (hs : s.ReportSound) :
    (State.rguFire sh s).ReportSound := by
  simp only [State.rguFire]; (repeat' split) <;> simp -implicitDefEqProofs (maxDischargeDepth := 9) [*]

@[simp] theorem State.rguOpen_sound (line attempt : Nat) (watch : Bool) (s : State) (hs : s.ReportSound) :
    (State.rguOpen line attempt watch s).ReportSound := by
  simp only [State.rguOpen]; simp -implicitDefEqProofs (maxDischargeDepth := 9) [*]

@[simp] theorem State.closeAllMissing_sound (l : List Shot) (s : State) (h : s.ReportSound) : (State.closeAllMissing l s).ReportSound := by
  induction l generalizing s with
  | nil => exact h
  | cons a l ih => exact ih _ (State.closeMissing_sound _ _ h)

@[simp] theorem State.rguEnd_sound (kind : EndKind) (line attempt : Nat) (s : State) (hs : s.ReportSound) :
    (State.rguEnd kind line attempt s).ReportSound := by
  simp only [State.rguEnd]; simp -implicitDefEqProofs (maxDischargeDepth := 9) [*]

@[simp] theorem State.rguRunEnd_sound (s : State) (hs : s.ReportSound) :
    (State.rguRunEnd s).ReportSound := by
  simp only [State.rguRunEnd]; simp -implicitDefEqProofs (maxDischargeDepth := 9) [*]

@[simp] theorem State.closeBySet_sound (e : EchoSet) (older : List Shot) (sh : Shot) (younger : List Shot) (s : State) (hs : s.ReportSound) :
    (State.closeBySet e older sh younger s).1.ReportSound := by
  simp only [State.closeBySet]; simp -implicitDefEqProofs (maxDischargeDepth := 9) [*]

@[simp] theorem State.takeSet_sound (e : EchoSet) (s : State) (hs : s.ReportSound) :
    (State.takeSet e s).1.ReportSound := by
  simp only [State.takeSet]; (repeat' split) <;> simp -implicitDefEqProofs (maxDischargeDepth := 9) [*]

@[simp] theorem State.expose_sound (s : State) (hs : s.ReportSound) :
    (State.expose s).ReportSound := by
  simp only [State.expose]; simp -implicitDefEqProofs (maxDischargeDepth := 9) [*]

@[simp] theorem State.checkGrant_sound (s : State) (hs : s.ReportSound) :
    (State.checkGrant s).ReportSound := by
  simp only [State.checkGrant]; (repeat' split) <;> simp -implicitDefEqProofs (maxDischargeDepth := 9) [*]

@[simp] theorem State.endSettle_sound (s : State) (hs : s.ReportSound) :
    (State.endSettle s).ReportSound := by
  simp only [State.endSettle]; simp -implicitDefEqProofs (maxDischargeDepth := 9) [*]

@[simp] theorem State.enterSettle_sound (m : CameraSet) (s : State) (hs : s.ReportSound) :
    (State.enterSettle m s).ReportSound := by
  simp only [State.enterSettle]; (repeat' split) <;> simp -implicitDefEqProofs (maxDischargeDepth := 9) [*]

@[simp] theorem State.photoRequest_sound (m : CameraSet) (s : State) (hs : s.ReportSound) :
    (State.photoRequest m s).1.ReportSound := by
  simp only [State.photoRequest]; (repeat' split) <;> simp -implicitDefEqProofs (maxDischargeDepth := 9) [*]

@[simp] theorem State.offerPhotos_sound (l : List Photo) (s : State) (h : s.ReportSound) : (State.offerPhotos l s).ReportSound := by
  induction l generalizing s with
  | nil => exact h
  | cons a l ih =>
    unfold State.offerPhotos; split
    · exact ih _ (State.enter_sound _ _ h (by assumption) rfl)
    · exact h

@[simp] theorem State.queuePhotos_sound (ps : List Photo) (s : State) (hs : s.ReportSound) :
    (State.queuePhotos ps s).ReportSound := by
  simp only [State.queuePhotos]; (repeat' split) <;> simp -implicitDefEqProofs (maxDischargeDepth := 9) [*]

@[simp] theorem State.release_sound (s : State) (hs : s.ReportSound) :
    (State.release s).ReportSound := by
  simp only [State.release]; simp -implicitDefEqProofs (maxDischargeDepth := 9) [*]

@[simp] theorem State.idleIfDrained_sound (s : State) (hs : s.ReportSound) :
    (State.idleIfDrained s).ReportSound := by
  simp only [State.idleIfDrained]; (repeat' split) <;> simp -implicitDefEqProofs (maxDischargeDepth := 9) [*]

@[simp] theorem State.photoAbort_sound (s : State) (hs : s.ReportSound) :
    (State.photoAbort s).ReportSound := by
  simp only [State.photoAbort]; (repeat' split) <;> simp -implicitDefEqProofs (maxDischargeDepth := 9) [*]

@[simp] theorem State.beaconNotice_sound (station : Nat) (listed firing : Bool) (s : State) (hs : s.ReportSound) :
    (State.beaconNotice station listed firing s).ReportSound := by
  simp only [State.beaconNotice]; (repeat' split) <;> simp -implicitDefEqProofs (maxDischargeDepth := 9) [*]

@[simp] theorem State.removalNotice_sound (station : Nat) (s : State) (hs : s.ReportSound) :
    (State.removalNotice station s).ReportSound := by
  simp only [State.removalNotice]; (repeat' split) <;> simp -implicitDefEqProofs (maxDischargeDepth := 9) [*]

@[simp] theorem State.quietSent_sound (inGrantWait : Bool) (s : State) (hs : s.ReportSound) :
    (State.quietSent inGrantWait s).ReportSound := by
  simp only [State.quietSent]; (repeat' split) <;> simp -implicitDefEqProofs (maxDischargeDepth := 9) [*]

@[simp] theorem State.enterJoining_sound (s : State) (hs : s.ReportSound) :
    (State.enterJoining s).ReportSound := by
  simp only [State.enterJoining]; simp -implicitDefEqProofs (maxDischargeDepth := 9) [*]

@[simp] theorem State.leaveEnded_sound (s : State) (hs : s.ReportSound) :
    (State.leaveEnded s).ReportSound := by
  simp only [State.leaveEnded]; (repeat' split) <;> simp -implicitDefEqProofs (maxDischargeDepth := 9) [*]

@[simp] theorem State.emptyTable_sound (s : State) (hs : s.ReportSound) :
    (State.emptyTable s).ReportSound := by
  simp only [State.emptyTable]; simp -implicitDefEqProofs (maxDischargeDepth := 9) [*]

@[simp] theorem State.emtOpen_sound (line attempt : Nat) (g : Segment) (s : State) (hs : s.ReportSound) :
    (State.emtOpen line attempt g s).ReportSound := by
  simp only [State.emtOpen]; simp -implicitDefEqProofs (maxDischargeDepth := 9) [*]

@[simp] theorem State.emtClose_sound (s : State) (hs : s.ReportSound) :
    (State.emtClose s).ReportSound := by
  simp only [State.emtClose]; simp -implicitDefEqProofs (maxDischargeDepth := 9) [*]

@[simp] theorem State.emitFall_sound (s : State) (hs : s.ReportSound) :
    (State.emitFall s).ReportSound := by
  simp only [State.emitFall]; (repeat' split) <;> simp -implicitDefEqProofs (maxDischargeDepth := 9) [*]

@[simp] theorem State.emtRunEnd_sound (s : State) (hs : s.ReportSound) :
    (State.emtRunEnd s).ReportSound := by
  simp only [State.emtRunEnd]; simp -implicitDefEqProofs (maxDischargeDepth := 9) [*]

@[simp] theorem State.placeRecord_sound (r : Record) (s : State) (hs : s.ReportSound) (hp : (!r.isPoint) = true) :
    (State.placeRecord r s).ReportSound := by
  unfold State.placeRecord; split
  · exact State.enter_sound _ _ (State.withPwk_none_rs _ _ hs rfl) (by assumption) hp
  · exact State.withPwk_some_rs _ _ r hs rfl (by simpa using hp)

@[simp] theorem State.closeNotice_sound (s : State) (hs : s.ReportSound) :
    (State.closeNotice s).ReportSound := by
  simp only [State.closeNotice]; simp -implicitDefEqProofs (maxDischargeDepth := 9) [*]

@[simp] theorem State.orderDrawn_sound (s : State) (hs : s.ReportSound) :
    (State.orderDrawn s).ReportSound := by
  simp only [State.orderDrawn]; (repeat' split) <;> simp -implicitDefEqProofs (maxDischargeDepth := 9) [*]

@[simp] theorem State.endNotices_sound (kind : EndKind) (a : AttemptRecord) (s : State) (hs : s.ReportSound) :
    (State.endNotices kind a s).ReportSound := by
  simp only [State.endNotices]; simp -implicitDefEqProofs (maxDischargeDepth := 9) [*]

@[simp] theorem State.stopAttempt_sound (reason : AbandonReason) (s : State) (hs : s.ReportSound) :
    (State.stopAttempt reason s).ReportSound := by
  simp only [State.stopAttempt]; (repeat' split) <;> simp -implicitDefEqProofs (maxDischargeDepth := 9) [*]

@[simp] theorem State.walkerRunEnd_sound (reason : AbandonReason) (s : State) (hs : s.ReportSound) :
    (State.walkerRunEnd reason s).ReportSound := by
  simp only [State.walkerRunEnd]; simp -implicitDefEqProofs (maxDischargeDepth := 9) [*]

@[simp] theorem State.shotPathRunEnd_sound (s : State) (hs : s.ReportSound) :
    (State.shotPathRunEnd s).ReportSound := by
  simp only [State.shotPathRunEnd]; simp -implicitDefEqProofs (maxDischargeDepth := 9) [*]

@[simp] theorem State.deviceReady_sound (s : State) (hs : s.ReportSound) :
    (State.deviceReady s).ReportSound := by
  simp only [State.deviceReady]; simp -implicitDefEqProofs (maxDischargeDepth := 9) [*]

@[simp] theorem State.leaveLine_sound (s : State) (hs : s.ReportSound) :
    (State.leaveLine s).ReportSound := by
  simp only [State.leaveLine]; simp -implicitDefEqProofs (maxDischargeDepth := 9) [*]

@[simp] theorem State.stopShots_sound (s : State) (hs : s.ReportSound) :
    (State.stopShots s).ReportSound := by
  simp only [State.stopShots]; (repeat' split) <;> simp -implicitDefEqProofs (maxDischargeDepth := 9) [*]

@[simp] theorem State.endByStop_sound (s : State) (hs : s.ReportSound) :
    (State.endByStop s).ReportSound := by
  simp only [State.endByStop]; simp -implicitDefEqProofs (maxDischargeDepth := 9) [*]

@[simp] theorem State.endByPlan_sound (s : State) (hs : s.ReportSound) :
    (State.endByPlan s).ReportSound := by
  simp only [State.endByPlan]; simp -implicitDefEqProofs (maxDischargeDepth := 9) [*]

@[simp] theorem State.endByDuplicate_sound (s : State) (hs : s.ReportSound) :
    (State.endByDuplicate s).ReportSound := by
  simp only [State.endByDuplicate]; simp -implicitDefEqProofs (maxDischargeDepth := 9) [*]

@[simp] theorem State.issueHead_sound (target : Nat) (s : State) (hs : s.ReportSound) :
    (State.issueHead target s).ReportSound := by
  simp only [State.issueHead]; simp -implicitDefEqProofs (maxDischargeDepth := 9) [*]

@[simp] theorem State.slewTo_sound (target : Nat) (s : State) (hs : s.ReportSound) :
    (State.slewTo target s).1.ReportSound := by
  simp only [State.slewTo]; simp -implicitDefEqProofs (maxDischargeDepth := 9) [*]

@[simp] theorem afterRequest_fst (r : State × Option Completion) : (afterRequest r).1 = r.1 := rfl

@[simp] theorem State.takePhoto_sound (m : CameraSet) (s : State) (hs : s.ReportSound) :
    (State.takePhoto m s).1.ReportSound := by
  simp only [State.takePhoto]; simp -implicitDefEqProofs (maxDischargeDepth := 9) [*]

@[simp] theorem State.planDone_sound (s : State) (hs : s.ReportSound) :
    (State.planDone s).ReportSound := by
  simp only [State.planDone]; simp -implicitDefEqProofs (maxDischargeDepth := 9) [*]

@[simp] theorem State.takeRecord_sound (i : Nat) (s : State) (hs : s.ReportSound) :
    (State.takeRecord i s).1.ReportSound := by
  simp only [State.takeRecord]; (repeat' split) <;> simp -implicitDefEqProofs (maxDischargeDepth := 9) [*]

@[simp] theorem State.arrive_sound (s : State) (hs : s.ReportSound) :
    (State.arrive s).1.ReportSound := by
  simp only [State.arrive]; (repeat' split) <;> simp -implicitDefEqProofs (maxDischargeDepth := 9) [*]

@[simp] theorem State.afterLine_sound (s : State) (hs : s.ReportSound) :
    (State.afterLine s).1.ReportSound := by
  simp only [State.afterLine]; (repeat' split) <;> simp -implicitDefEqProofs (maxDischargeDepth := 9) [*]

@[simp] theorem State.nextLine_sound (s : State) (hs : s.ReportSound) :
    (State.nextLine s).1.ReportSound := by
  simp only [State.nextLine]; (repeat' split) <;> simp -implicitDefEqProofs (maxDischargeDepth := 9) [*]

@[simp] theorem State.photoDone_sound (s : State) (hs : s.ReportSound) :
    (State.photoDone s).1.ReportSound := by
  simp only [State.photoDone]; (repeat' split) <;> simp -implicitDefEqProofs (maxDischargeDepth := 9) [*]

@[simp] theorem State.walkTask_sound (t : WalkTask) (s : State) (h : s.ReportSound) : (State.walkTask t s).1.ReportSound := by
  cases t <;> simp [State.walkTask, h]

@[simp] theorem State.walkTasks_sound (n : Nat) (t : WalkTask) (s : State) (h : s.ReportSound) : (State.walkTasks n t s).ReportSound := by
  induction n generalizing t s with
  | zero => exact h
  | succ n ih => unfold State.walkTasks; split <;> simp [ih, h]

@[simp] theorem State.walk_sound (t : WalkTask) (s : State) (h : s.ReportSound) : (State.walk t s).ReportSound := by simp [State.walk, h]

@[simp] theorem State.runDeferred_sound (s : State) (hs : s.ReportSound) :
    (State.runDeferred s).ReportSound := by
  simp only [State.runDeferred]; (repeat' split) <;> simp -implicitDefEqProofs (maxDischargeDepth := 9) [*]

@[simp] theorem State.defer_sound (t : WalkTask) (s : State) (hs : s.ReportSound) :
    (State.defer t s).ReportSound := by
  simp only [State.defer]; simp -implicitDefEqProofs (maxDischargeDepth := 9) [*]

@[simp] theorem State.photoDrained_sound (s : State) (hs : s.ReportSound) :
    (State.photoDrained s).ReportSound := by
  simp only [State.photoDrained]; (repeat' split) <;> simp -implicitDefEqProofs (maxDischargeDepth := 9) [*]

@[simp] theorem State.checkDrained_sound (s : State) (hs : s.ReportSound) :
    (State.checkDrained s).ReportSound := by
  simp only [State.checkDrained]; (repeat' split) <;> simp -implicitDefEqProofs (maxDischargeDepth := 9) [*]

@[simp] theorem State.endLine_sound (a : AttemptRecord) (outcome : LineOutcome) (thinned : Bool) (fired offered : Nat) (s : State) (hs : s.ReportSound) :
    (State.endLine a outcome thinned fired offered s).ReportSound := by
  simp only [State.endLine]; (repeat' split) <;> simp -implicitDefEqProofs (maxDischargeDepth := 9) [*]

@[simp] theorem State.retryLine_sound (a : AttemptRecord) (reason : AbandonReason) (fired : Nat) (s : State) (hs : s.ReportSound) :
    (State.retryLine a reason fired s).ReportSound := by
  unfold State.retryLine; exact State.placeRecord_sound _ _ (State.withPwk_rs _ _ hs rfl) rfl

@[simp] theorem State.judgeAttempt_sound (a : AttemptRecord) (r : FinishReport) (s : State) (hs : s.ReportSound) :
    (State.judgeAttempt a r s).ReportSound := by
  simp only [State.judgeAttempt]; (repeat' split) <;> simp -implicitDefEqProofs (maxDischargeDepth := 9) [*]

@[simp] theorem finishReportAct_sound (s : State) (hs : s.ReportSound) :
    (finishReportAct s).ReportSound := by
  simp only [finishReportAct]; (repeat' split) <;> simp -implicitDefEqProofs (maxDischargeDepth := 9) [*]

@[simp] theorem State.exhaustLine_sound (a : AttemptRecord) (fired : Nat) (s : State) (hs : s.ReportSound) :
    (State.exhaustLine a fired s).ReportSound := by
  simp only [State.exhaustLine]; simp -implicitDefEqProofs (maxDischargeDepth := 9) [*]

@[simp] theorem State.recordAbandoned_sound (reason : AbandonReason) (a : AttemptRecord) (fired : Nat) (s : State) (hs : s.ReportSound) :
    (State.recordAbandoned reason a fired s).ReportSound := by
  simp only [State.recordAbandoned]; (repeat' split) <;> simp -implicitDefEqProofs (maxDischargeDepth := 9) [*]

@[simp] theorem State.abandon_sound (reason : AbandonReason) (a : AttemptRecord) (s : State) (hs : s.ReportSound) :
    (State.abandon reason a s).ReportSound := by
  simp only [State.abandon]; (repeat' split) <;> simp -implicitDefEqProofs (maxDischargeDepth := 9) [*]

@[simp] theorem State.interrupt_sound (i : Interruption) (s : State) (hs : s.ReportSound) :
    (State.interrupt i s).ReportSound := by
  simp only [State.interrupt]; (repeat' split) <;> simp -implicitDefEqProofs (maxDischargeDepth := 9) [*]

@[simp] theorem attemptLimitAct_sound (s : State) (hs : s.ReportSound) :
    (attemptLimitAct s).ReportSound := by
  simp only [attemptLimitAct]; (repeat' split) <;> simp -implicitDefEqProofs (maxDischargeDepth := 9) [*]

@[simp] theorem State.announceHold_sound (s : State) (hs : s.ReportSound) :
    (State.announceHold s).ReportSound := by
  simp only [State.announceHold]; (repeat' split) <;> simp -implicitDefEqProofs (maxDischargeDepth := 9) [*]

@[simp] theorem State.halt_sound (hit : ProximityHit) (a : AttemptRecord) (s : State) (hs : s.ReportSound) :
    (State.halt hit a s).ReportSound := by
  simp only [State.halt]; simp -implicitDefEqProofs (maxDischargeDepth := 9) [*]

@[simp] theorem State.takeHit_sound (hit : ProximityHit) (s : State) (hs : s.ReportSound) :
    (State.takeHit hit s).ReportSound := by
  simp only [State.takeHit]; (repeat' split) <;> simp -implicitDefEqProofs (maxDischargeDepth := 9) [*]

@[simp] theorem State.endAttempt_sound (a : AttemptRecord) (s : State) (hs : s.ReportSound) :
    (State.endAttempt a s).ReportSound := by
  simp only [State.endAttempt]; simp -implicitDefEqProofs (maxDischargeDepth := 9) [*]

@[simp] theorem State.openAttempt_sound (g : Segment) (s : State) (h : s.ReportSound) (hm : s.mayOpen = true) : (State.openAttempt g s).ReportSound := by
  have : s.rps.room = true := by simp [State.mayOpen] at hm; simp_all
  unfold State.openAttempt; dsimp only
  simp -implicitDefEqProofs (maxDischargeDepth := 9) [h, this]

@[simp] theorem State.walkerIndex_sound (s : State) (h : s.ReportSound) : (State.walkerIndex s).ReportSound := by
  unfold State.walkerIndex; (repeat' split) <;> simp -implicitDefEqProofs (maxDischargeDepth := 9) [*]

@[simp] theorem encoderIndexAct_sound (enc : Encoder) (level : Bool) (s : State) (hs : s.ReportSound) :
    (encoderIndexAct enc level s).ReportSound := by
  simp only [encoderIndexAct]; (repeat' split) <;> simp -implicitDefEqProofs (maxDischargeDepth := 9) [*]

@[simp] theorem inPositionAct_sound (s : State) (hs : s.ReportSound) :
    (inPositionAct s).ReportSound := by
  simp only [inPositionAct]; (repeat' split) <;> simp -implicitDefEqProofs (maxDischargeDepth := 9) [*]

@[simp] theorem headFaultAct_sound (s : State) (hs : s.ReportSound) :
    (headFaultAct s).ReportSound := by
  simp only [headFaultAct]; (repeat' split) <;> simp -implicitDefEqProofs (maxDischargeDepth := 9) [*]

@[simp] theorem State.tick_sound (s : State) (hs : s.ReportSound) :
    (State.tick s).ReportSound := by
  simp only [State.tick]; (repeat' split) <;> simp -implicitDefEqProofs (maxDischargeDepth := 9) [*]

@[simp] theorem localTimeLimitAct_sound (s : State) (hs : s.ReportSound) :
    (localTimeLimitAct s).ReportSound := by
  simp only [localTimeLimitAct]; (repeat' split) <;> simp -implicitDefEqProofs (maxDischargeDepth := 9) [*]

@[simp] theorem State.raiseEmit_sound (s : State) (hs : s.ReportSound) :
    (State.raiseEmit s).ReportSound := by
  simp only [State.raiseEmit]; (repeat' split) <;> simp -implicitDefEqProofs (maxDischargeDepth := 9) [*]

@[simp] theorem State.fireShot_sound (ctx : EmitContext) (mirror head : Nat) (s : State) (hs : s.ReportSound) :
    (State.fireShot ctx mirror head s).ReportSound := by
  simp only [State.fireShot]; simp -implicitDefEqProofs (maxDischargeDepth := 9) [*]

@[simp] theorem State.judgeInstant_sound (ctx : EmitContext) (mirror head : Nat) (s : State) (hs : s.ReportSound) :
    (State.judgeInstant ctx mirror head s).1.ReportSound := by
  simp only [State.judgeInstant]; (repeat' split) <;> simp -implicitDefEqProofs (maxDischargeDepth := 9) [*]

@[simp] theorem State.handleInstant_sound (s : State) (hs : s.ReportSound) :
    (State.handleInstant s).1.ReportSound := by
  simp only [State.handleInstant]; (repeat' split) <;> simp -implicitDefEqProofs (maxDischargeDepth := 9) [*]

@[simp] theorem State.takeNotice_sound (n : Option Interruption) (s : State) (hs : s.ReportSound) :
    (State.takeNotice n s).ReportSound := by
  simp only [State.takeNotice]; (repeat' split) <;> simp -implicitDefEqProofs (maxDischargeDepth := 9) [*]

@[simp] theorem scheduledInstantAct_sound (s : State) (hs : s.ReportSound) :
    (scheduledInstantAct s).ReportSound := by
  simp only [scheduledInstantAct]; (repeat' split) <;> simp -implicitDefEqProofs (maxDischargeDepth := 9) [*]

@[simp] theorem firePulseEndAct_sound (s : State) (hs : s.ReportSound) :
    (firePulseEndAct s).ReportSound := by
  simp only [firePulseEndAct]; (repeat' split) <;> simp -implicitDefEqProofs (maxDischargeDepth := 9) [*]

@[simp] theorem emitExpiryAct_sound (s : State) (hs : s.ReportSound) :
    (emitExpiryAct s).ReportSound := by
  simp only [emitExpiryAct]; (repeat' split) <;> simp -implicitDefEqProofs (maxDischargeDepth := 9) [*]

@[simp] theorem takeRaisedHit_sound (r : State × Option ProximityHit) (h : r.1.ReportSound) : (takeRaisedHit r).ReportSound := by
  unfold takeRaisedHit; split <;> simp [h]

@[simp] theorem State.completeSet_sound (e : EchoSet) (s : State) (hs : s.ReportSound) :
    (State.completeSet e s).ReportSound := by
  simp only [State.completeSet]; (repeat' split) <;> simp -implicitDefEqProofs (maxDischargeDepth := 9) [*]

@[simp] theorem State.takeTransfers_sound (n : Nat) (s : State) (hs : s.ReportSound) :
    (State.takeTransfers n s).ReportSound := by
  induction n generalizing s with
  | zero => exact hs
  | succ n ih => unfold State.takeTransfers; split <;> simp -implicitDefEqProofs (maxDischargeDepth := 9) [*]

@[simp] theorem echoSetAct_sound (header : Bool) (bytes : List Byte) (s : State) (hs : s.ReportSound) :
    (echoSetAct header bytes s).ReportSound := by
  simp only [echoSetAct]; simp -implicitDefEqProofs (maxDischargeDepth := 9) [*]

@[simp] theorem settleEndAct_sound (s : State) (hs : s.ReportSound) :
    (settleEndAct s).ReportSound := by
  simp only [settleEndAct]; (repeat' split) <;> simp -implicitDefEqProofs (maxDischargeDepth := 9) [*]

@[simp] theorem grantTimeoutAct_sound (s : State) (hs : s.ReportSound) :
    (grantTimeoutAct s).ReportSound := by
  simp only [grantTimeoutAct]; (repeat' split) <;> simp -implicitDefEqProofs (maxDischargeDepth := 9) [*]

@[simp] theorem cameraEndAct_sound (camera : Nat) (s : State) (hs : s.ReportSound) :
    (cameraEndAct camera s).ReportSound := by
  simp only [cameraEndAct]; (repeat' split) <;> simp -implicitDefEqProofs (maxDischargeDepth := 9) [*]

@[simp] theorem photoReleaseAct_sound (s : State) (hs : s.ReportSound) :
    (photoReleaseAct s).ReportSound := by
  simp only [photoReleaseAct]; (repeat' split) <;> simp -implicitDefEqProofs (maxDischargeDepth := 9) [*]

@[simp] theorem State.updatePeer_sound (station : Nat) (f : Peer → Peer) (s : State) (hs : s.ReportSound) :
    (State.updatePeer station f s).ReportSound := by
  simp only [State.updatePeer]; (repeat' split) <;> simp -implicitDefEqProofs (maxDischargeDepth := 9) [*]

@[simp] theorem State.hear_sound (station : Nat) (spoken : Membership) (s : State) (hs : s.ReportSound) :
    (State.hear station spoken s).ReportSound := by
  simp only [State.hear]; (repeat' split) <;> simp -implicitDefEqProofs (maxDischargeDepth := 9) [*]

@[simp] theorem State.setPeerHold_sound (station : Nat) (on : Bool) (source : HoldSource) (s : State) (hs : s.ReportSound) :
    (State.setPeerHold station on source s).ReportSound := by
  simp only [State.setPeerHold]; (repeat' split) <;> simp -implicitDefEqProofs (maxDischargeDepth := 9) [*]

@[simp] theorem State.closeWindow_sound (station : Nat) (cause : CloseCause) (s : State) (hs : s.ReportSound) :
    (State.closeWindow station cause s).ReportSound := by
  simp only [State.closeWindow]; (repeat' split) <;> simp -implicitDefEqProofs (maxDischargeDepth := 9) [*]

@[simp] theorem State.grantQuiet_sound (station w : Nat) (s : State) (hs : s.ReportSound) :
    (State.grantQuiet station w s).ReportSound := by
  simp only [State.grantQuiet]; (repeat' split) <;> simp -implicitDefEqProofs (maxDischargeDepth := 9) [*]

@[simp] theorem State.takeQuiet_sound (station w : Nat) (s : State) (hs : s.ReportSound) :
    (State.takeQuiet station w s).ReportSound := by
  simp only [State.takeQuiet]; (repeat' split) <;> simp -implicitDefEqProofs (maxDischargeDepth := 9) [*]

@[simp] theorem State.takeBeacon_sound (station : Nat) (firing hold listed : Bool) (s : State) (hs : s.ReportSound) :
    (State.takeBeacon station firing hold listed s).ReportSound := by
  simp only [State.takeBeacon]; simp -implicitDefEqProofs (maxDischargeDepth := 9) [*]

@[simp] theorem State.takeContents_sound (own station : Nat) (c : Contents) (s : State) (hs : s.ReportSound) :
    (State.takeContents own station c s).ReportSound := by
  simp only [State.takeContents]; (repeat' split) <;> simp -implicitDefEqProofs (maxDischargeDepth := 9) [*]

@[simp] theorem State.removePeer_sound (station : Nat) (cause : LossCause) (s : State) (hs : s.ReportSound) :
    (State.removePeer station cause s).ReportSound := by
  simp only [State.removePeer]; (repeat' split) <;> simp -implicitDefEqProofs (maxDischargeDepth := 9) [*]

@[simp] theorem State.duplicate_sound (kind : FrameKind) (spoken : Membership) (s : State) (hs : s.ReportSound) :
    (State.duplicate kind spoken s).ReportSound := by
  simp only [State.duplicate]; simp -implicitDefEqProofs (maxDischargeDepth := 9) [*]

@[simp] theorem State.takeValid_sound (station : Nat) (c : Contents) (s : State) (hs : s.ReportSound) :
    (State.takeValid station c s).ReportSound := by
  simp only [State.takeValid]; (repeat' split) <;> simp -implicitDefEqProofs (maxDischargeDepth := 9) [*]

@[simp] theorem ageExpiryAct_sound (station : Nat) (s : State) (hs : s.ReportSound) :
    (ageExpiryAct station s).ReportSound := by
  simp only [ageExpiryAct]; (repeat' split) <;> simp -implicitDefEqProofs (maxDischargeDepth := 9) [*]

@[simp] theorem State.becomeLive_sound (s : State) (hs : s.ReportSound) :
    (State.becomeLive s).ReportSound := by
  simp only [State.becomeLive]; simp -implicitDefEqProofs (maxDischargeDepth := 9) [*]

@[simp] theorem State.tellLive_sound (s : State) (hs : s.ReportSound) :
    (State.tellLive s).ReportSound := by
  simp only [State.tellLive]; (repeat' split) <;> simp -implicitDefEqProofs (maxDischargeDepth := 9) [*]

@[simp] theorem joinExpiryAct_sound (s : State) (hs : s.ReportSound) :
    (joinExpiryAct s).ReportSound := by
  simp only [joinExpiryAct]; (repeat' split) <;> simp -implicitDefEqProofs (maxDischargeDepth := 9) [*]

@[simp] theorem windowExpiryAct_sound (station : Nat) (s : State) (hs : s.ReportSound) :
    (windowExpiryAct station s).ReportSound := by
  simp only [windowExpiryAct]; (repeat' split) <;> simp -implicitDefEqProofs (maxDischargeDepth := 9) [*]

@[simp] theorem accessExpiryAct_sound (s : State) (hs : s.ReportSound) :
    (accessExpiryAct s).ReportSound := by
  simp only [accessExpiryAct]; (repeat' split) <;> simp -implicitDefEqProofs (maxDischargeDepth := 9) [*]

@[simp] theorem State.sentNotice_sound (f : TxFrame) (s : State) (hs : s.ReportSound) :
    (State.sentNotice f s).ReportSound := by
  simp only [State.sentNotice]; (repeat' split) <;> simp -implicitDefEqProofs (maxDischargeDepth := 9) [*]

@[simp] theorem State.endSending_sound (f : TxFrame) (s : State) (hs : s.ReportSound) :
    (State.endSending f s).ReportSound := by
  simp only [State.endSending]; (repeat' split) <;> simp -implicitDefEqProofs (maxDischargeDepth := 9) [*]

@[simp] theorem sendingEndAct_sound (s : State) (hs : s.ReportSound) :
    (sendingEndAct s).ReportSound := by
  simp only [sendingEndAct]; (repeat' split) <;> simp -implicitDefEqProofs (maxDischargeDepth := 9) [*]

@[simp] theorem carrierRiseAct_sound (s : State) (hs : s.ReportSound) :
    (carrierRiseAct s).ReportSound := by
  simp only [carrierRiseAct]; (repeat' split) <;> simp -implicitDefEqProofs (maxDischargeDepth := 9) [*]

@[simp] theorem carrierFallAct_sound (s : State) (hs : s.ReportSound) :
    (carrierFallAct s).ReportSound := by
  simp only [carrierFallAct]; (repeat' split) <;> simp -implicitDefEqProofs (maxDischargeDepth := 9) [*]

@[simp] theorem jamExpiryAct_sound (s : State) (hs : s.ReportSound) :
    (jamExpiryAct s).ReportSound := by
  simp only [jamExpiryAct]; (repeat' split) <;> simp -implicitDefEqProofs (maxDischargeDepth := 9) [*]

@[simp] theorem beaconExpiryAct_sound (s : State) (hs : s.ReportSound) :
    (beaconExpiryAct s).ReportSound := by
  simp only [beaconExpiryAct]; (repeat' split) <;> simp -implicitDefEqProofs (maxDischargeDepth := 9) [*]

@[simp] theorem leaveExpiryAct_sound (s : State) (hs : s.ReportSound) :
    (leaveExpiryAct s).ReportSound := by
  simp only [leaveExpiryAct]; (repeat' split) <;> simp -implicitDefEqProofs (maxDischargeDepth := 9) [*]

@[simp] theorem State.takeJudged_sound (j : Except Discard (Nat × Contents)) (s : State) (hs : s.ReportSound) :
    (State.takeJudged j s).ReportSound := by
  simp only [State.takeJudged]; (repeat' split) <;> simp -implicitDefEqProofs (maxDischargeDepth := 9) [*]

@[simp] theorem State.completeFrame_sound (station kind : Byte) (payload : List Byte) (check : Word16) (s : State) (hs : s.ReportSound) :
    (State.completeFrame station kind payload check s).ReportSound := by
  simp only [State.completeFrame]; simp -implicitDefEqProofs (maxDischargeDepth := 9) [*]

@[simp] theorem State.huntByte_sound (preamble : Bool) (b : Byte) (s : State) (hs : s.ReportSound) :
    (State.huntByte preamble b s).ReportSound := by
  simp only [State.huntByte]; (repeat' split) <;> simp -implicitDefEqProofs (maxDischargeDepth := 9) [*]

@[simp] theorem State.headerBytes_sound (bs : List Byte) (s : State) (hs : s.ReportSound) :
    (State.headerBytes bs s).ReportSound := by
  simp only [State.headerBytes]; (repeat' split) <;> simp -implicitDefEqProofs (maxDischargeDepth := 9) [*]

@[simp] theorem State.bodyBytes_sound (bs : List Byte) (s : State) (hs : s.ReportSound) :
    (State.bodyBytes bs s).ReportSound := by
  simp only [State.bodyBytes]; (repeat' split) <;> simp -implicitDefEqProofs (maxDischargeDepth := 9) [*]

@[simp] theorem State.goodByte_sound (b : Byte) (s : State) (hs : s.ReportSound) :
    (State.goodByte b s).ReportSound := by
  simp only [State.goodByte]; (repeat' split) <;> simp -implicitDefEqProofs (maxDischargeDepth := 9) [*]

@[simp] theorem siteByteAct_sound (byte : Byte) (stopBitOk : Bool) (s : State) (hs : s.ReportSound) :
    (siteByteAct byte stopBitOk s).ReportSound := by
  simp only [siteByteAct]; (repeat' split) <;> simp -implicitDefEqProofs (maxDischargeDepth := 9) [*]

@[simp] theorem byteGapAct_sound (s : State) (hs : s.ReportSound) :
    (byteGapAct s).ReportSound := by
  simp only [byteGapAct]; (repeat' split) <;> simp -implicitDefEqProofs (maxDischargeDepth := 9) [*]

@[simp] theorem State.wholeFrame_sound (station kind : Byte) (payload : List Byte) (check : Word16) (s : State) (hs : s.ReportSound) :
    (State.wholeFrame station kind payload check s).ReportSound := by
  simp only [State.wholeFrame]; (repeat' split) <;> simp -implicitDefEqProofs (maxDischargeDepth := 9) [*]

@[simp] theorem siteFrameAct_sound (station kind : Byte) (payload : List Byte) (check : Word16) (s : State) (hs : s.ReportSound) :
    (siteFrameAct station kind payload check s).ReportSound := by
  simp only [siteFrameAct]; (repeat' split) <;> simp -implicitDefEqProofs (maxDischargeDepth := 9) [*]

@[simp] theorem State.setTable_rs (code : Nat) (v : List Int) (s : State) : (State.setTable code v s).ReportSound = s.ReportSound := by
  unfold State.setTable; split <;> simp

@[simp] theorem State.loadTable_sound (row : Nat) (s : State) (hs : s.ReportSound) :
    (State.loadTable row s).ReportSound := by
  simp only [State.loadTable]; (repeat' split) <;> simp -implicitDefEqProofs (maxDischargeDepth := 9) [*]

@[simp] theorem State.resetLoad_sound (row : Nat) (s : State) (hs : s.ReportSound) :
    (State.resetLoad row s).ReportSound := by
  simp only [State.resetLoad]; (repeat' split) <;> simp -implicitDefEqProofs (maxDischargeDepth := 9) [*]

@[simp] theorem State.recordCause_sound (cause : ResetCause) (row : Option Nat) (s : State) (hs : s.ReportSound) :
    (State.recordCause cause row s).ReportSound := by
  simp only [State.recordCause]; simp -implicitDefEqProofs (maxDischargeDepth := 9) [*]

@[simp] theorem State.raiseReady_sound (s : State) (hs : s.ReportSound) :
    (State.raiseReady s).ReportSound := by
  simp only [State.raiseReady]; simp -implicitDefEqProofs (maxDischargeDepth := 9) [*]

@[simp] theorem writeCompletionAct_sound (s : State) (hs : s.ReportSound) :
    (writeCompletionAct s).ReportSound := by
  simp only [writeCompletionAct]; (repeat' split) <;> simp -implicitDefEqProofs (maxDischargeDepth := 9) [*]

@[simp] theorem State.judgeThresholds_sound (s : State) (h : s.ReportSound) : s.judgeThresholds.ReportSound := by
  unfold State.judgeThresholds; (repeat' split)
  · exact State.raise_sound _ _ (State.withRps_rs _ _ h h.1)
  · exact State.raise_sound _ _ (State.withRps_rs _ _ h h.1)
  · exact h

@[simp] theorem State.configured_sound (new : Settings) (s : State) (hs : s.ReportSound) :
    (State.configured new s).ReportSound := by
  simp only [State.configured]; simp -implicitDefEqProofs (maxDischargeDepth := 9) [*]

@[simp] theorem configureAct_sound (entries : List SettingEntry) (s : State) (hs : s.ReportSound) :
    (configureAct entries s).ReportSound := by
  simp only [configureAct]; (repeat' split) <;> simp -implicitDefEqProofs (maxDischargeDepth := 9) [*]

@[simp] theorem loadTableAct_sound (code : Byte) (contents : List Byte) (s : State) (hs : s.ReportSound) :
    (loadTableAct code contents s).ReportSound := by
  simp only [loadTableAct]; (repeat' split) <;> simp -implicitDefEqProofs (maxDischargeDepth := 9) [*]

@[simp] theorem readTableAct_sound (code : Byte) (s : State) (hs : s.ReportSound) :
    (readTableAct code s).ReportSound := by
  simp only [readTableAct]; (repeat' split) <;> simp -implicitDefEqProofs (maxDischargeDepth := 9) [*]

@[simp] theorem calStoreAct_sound (row : Byte) (s : State) (hs : s.ReportSound) :
    (calStoreAct row s).ReportSound := by
  simp only [calStoreAct]; (repeat' split) <;> simp -implicitDefEqProofs (maxDischargeDepth := 9) [*]

@[simp] theorem State.reload_sound (row : Nat) (s : State) (hs : s.ReportSound) :
    (State.reload row s).ReportSound := by
  simp only [State.reload]; (repeat' split) <;> simp -implicitDefEqProofs (maxDischargeDepth := 9) [*]

@[simp] theorem calReloadAct_sound (row : Byte) (s : State) (hs : s.ReportSound) :
    (calReloadAct row s).ReportSound := by
  simp only [calReloadAct]; (repeat' split) <;> simp -implicitDefEqProofs (maxDischargeDepth := 9) [*]

@[simp] theorem planWriteAct_sound (start : Byte) (records : List (List Byte)) (s : State) (hs : s.ReportSound) :
    (planWriteAct start records s).ReportSound := by
  simp only [planWriteAct]; (repeat' split) <;> simp -implicitDefEqProofs (maxDischargeDepth := 9) [*]

@[simp] theorem planReadAct_sound (start count : Byte) (s : State) (hs : s.ReportSound) :
    (planReadAct start count s).ReportSound := by
  simp only [planReadAct]; (repeat' split) <;> simp -implicitDefEqProofs (maxDischargeDepth := 9) [*]

@[simp] theorem State.joinLine_sound (s : State) (hs : s.ReportSound) :
    (State.joinLine s).ReportSound := by
  simp only [State.joinLine]; (repeat' split) <;> simp -implicitDefEqProofs (maxDischargeDepth := 9) [*]

@[simp] theorem State.beginRun_sound (index : Nat) (s : State) (hs : s.ReportSound) :
    (State.beginRun index s).ReportSound := by
  simp only [State.beginRun]; simp -implicitDefEqProofs (maxDischargeDepth := 9) [*]

@[simp] theorem startAct_sound (index : Byte) (s : State) (hs : s.ReportSound) :
    (startAct index s).ReportSound := by
  simp only [startAct]; (repeat' split) <;> simp -implicitDefEqProofs (maxDischargeDepth := 9) [*]

@[simp] theorem stopAct_sound (s : State) (hs : s.ReportSound) :
    (stopAct s).ReportSound := by
  simp only [stopAct]; (repeat' split) <;> simp -implicitDefEqProofs (maxDischargeDepth := 9) [*]

@[simp] theorem pauseAct_sound (s : State) (hs : s.ReportSound) :
    (pauseAct s).ReportSound := by
  simp only [pauseAct]; (repeat' split) <;> simp -implicitDefEqProofs (maxDischargeDepth := 9) [*]

@[simp] theorem State.endHalt_sound (s : State) (hs : s.ReportSound) :
    (State.endHalt s).ReportSound := by
  simp only [State.endHalt]; simp -implicitDefEqProofs (maxDischargeDepth := 9) [*]

@[simp] theorem State.endPause_sound (s : State) (hs : s.ReportSound) :
    (State.endPause s).ReportSound := by
  simp only [State.endPause]; simp -implicitDefEqProofs (maxDischargeDepth := 9) [*]

@[simp] theorem State.continueWalker_sound (s : State) (hs : s.ReportSound) :
    (State.continueWalker s).2.ReportSound := by
  simp only [State.continueWalker]; (repeat' split) <;> simp -implicitDefEqProofs (maxDischargeDepth := 9) [*]

@[simp] theorem continueAct_sound (s : State) (hs : s.ReportSound) :
    (continueAct s).ReportSound := by
  simp only [continueAct]; (repeat' split) <;> simp -implicitDefEqProofs (maxDischargeDepth := 9) [*]

@[simp] theorem statusAct_sound (s : State) (hs : s.ReportSound) :
    (statusAct s).ReportSound := by
  simp only [statusAct]; simp -implicitDefEqProofs (maxDischargeDepth := 9) [*]

@[simp] theorem peersAct_sound (s : State) (hs : s.ReportSound) :
    (peersAct s).ReportSound := by
  simp only [peersAct]; simp -implicitDefEqProofs (maxDischargeDepth := 9) [*]

@[simp] theorem photosAct_sound (s : State) (hs : s.ReportSound) :
    (photosAct s).ReportSound := by
  simp only [photosAct]; simp -implicitDefEqProofs (maxDischargeDepth := 9) [*]

@[simp] theorem State.dropLane_sound (n : Nat) (s : State) (hs : s.ReportSound) :
    (State.dropLane n s).ReportSound := by
  simp only [State.dropLane]; simp -implicitDefEqProofs (maxDischargeDepth := 9) [*]

@[simp] theorem State.frameEnded_sound (s : State) (hs : s.ReportSound) :
    (State.frameEnded s).ReportSound := by
  simp only [State.frameEnded]; simp -implicitDefEqProofs (maxDischargeDepth := 9) [*]

@[simp] theorem State.drawnFor_sound (i : Instr) (s : State) (hs : s.ReportSound) :
    (State.drawnFor i s).ReportSound := by
  simp only [State.drawnFor]; (repeat' split) <;> simp -implicitDefEqProofs (maxDischargeDepth := 9) [*]

@[simp] theorem laneDropAct_sound (s : State) (hs : s.ReportSound) :
    (laneDropAct s).ReportSound := by
  simp only [laneDropAct]; (repeat' split) <;> simp -implicitDefEqProofs (maxDischargeDepth := 9) [*]

@[simp] theorem laneGapAct_sound (s : State) (hs : s.ReportSound) :
    (laneGapAct s).ReportSound := by
  simp only [laneGapAct]; (repeat' split) <;> simp -implicitDefEqProofs (maxDischargeDepth := 9) [*]


theorem State.admitReply_sound (r : Reply) (s : State) (hs : s.ReportSound) (hr : s.rps.room = true) :
    (s.admitReply r).ReportSound := by
  unfold State.admitReply; simp -implicitDefEqProofs (maxDischargeDepth := 9) [hs, hr]

theorem State.admitWalker_sound (r : Record) (s : State) (hs : s.ReportSound) (hr : s.rps.room = true)
    (hp : (!r.isPoint) = true) : (s.admitWalker r).ReportSound := by
  unfold State.admitWalker
  exact State.runDeferred_sound _ (State.withPwk_none_rs _ _ (State.enter_sound r s hs hr hp) rfl)

theorem State.admitPhoto_sound (p : Photo) (rest : List Photo) (s : State) (hs : s.ReportSound) (hr : s.rps.room = true) :
    (s.admitPhoto p rest).ReportSound := by
  unfold State.admitPhoto; simp -implicitDefEqProofs (maxDischargeDepth := 9) [hs, hr]

theorem State.freeEntry_sound (s : State) (hs : s.ReportSound) : s.freeEntry.ReportSound := by
  unfold State.freeEntry; split
  · rename_i h
    have hr : s.rps.room = true := by simpa [Rps.room, Rps.occupancy] using (by simp only [Rps.occupancy] at h; omega : s.rps.queue.length < queueCapacity)
    split
    · exact State.admitReply_sound _ _ hs hr
    · rename_i ho
      exact State.admitWalker_sound _ _ hs hr (by simp [hs.2 _ ho])
    · exact State.admitPhoto_sound _ _ _ hs hr
    · exact State.serveEvents_sound _ hs
  · exact State.serveEvents_sound _ hs

theorem Rps.removeHead_sound (q : Rps) (h : q.Sound) : q.removeHead.Sound := by
  refine ⟨by have := h.1; simp [Rps.removeHead]; omega, ?_, h.2.2⟩
  have := h.2.1
  unfold Rps.points at *
  have h2 := (List.drop_sublist 1 q.queue).countP_le (p := Record.isPoint)
  exact le_trans h2 this

theorem Rps.judgeDeparture_sound (c : Settings) (now : Nat) (q : Rps) (h : q.Sound) : (q.judgeDeparture c now).Sound := by
  unfold Rps.judgeDeparture; split
  · exact Rps.note_sound _ _ _ _ h
  · exact h

@[simp] theorem reportWordAct_sound (s : State) (hs : s.ReportSound) : (reportWordAct s).ReportSound := by
  unfold reportWordAct; split
  · exact hs
  · split
    · exact State.withRps_rs _ _ hs hs.1
    · unfold State.depart
      exact State.freeEntry_sound _ (State.withRps_rs _ _ hs (Rps.judgeDeparture_sound _ _ _ (Rps.removeHead_sound _ hs.1)))

theorem State.resetBlocks_sound (l : InputLevels) (s : State) : (s.resetBlocks l).ReportSound := by
  refine ⟨⟨?_, ?_, ?_⟩, ?_⟩ <;> simp [State.resetBlocks, Rps.reset, Pwk.reset, Rps.points, eventsInForm]

theorem State.loadRows_sound (s : State) (hs : s.ReportSound) : s.loadRows.ReportSound := by
  unfold State.loadRows
  have : ∀ (l : List Nat) (t : State), t.ReportSound → (l.foldl (fun t row => t.resetLoad row) t).ReportSound := by
    intro l; induction l with
    | nil => intro t h; exact h
    | cons a l ih => intro t h; exact ih _ (State.resetLoad_sound _ _ h)
  simp; exact this _ _ hs

@[simp] theorem State.resetPart_sound (c : ResetCause) (r : Option Nat) (l : InputLevels) (s : State) : (s.resetPart c r l).ReportSound := by
  unfold State.resetPart
  exact State.serveEvents_sound _ (State.recordCause_sound _ _ _ (State.loadRows_sound _ (State.resetBlocks_sound _ _)))

@[simp] theorem powerOnAct_sound (l) (s : State) : (powerOnAct l s).ReportSound := by
  unfold powerOnAct; simp [State.raiseReady]
@[simp] theorem resetLineAct_sound (l) (s : State) : (resetLineAct l s).ReportSound := by
  unfold resetLineAct; simp [State.raiseReady]
@[simp] theorem resetAct_sound (l) (s : State) : (resetAct l s).ReportSound := by
  unfold resetAct; simp
@[simp] theorem powerLossAct_sound (s : State) : (powerLossAct s).ReportSound :=
  State.resetBlocks_sound lowLevels s

theorem State.laneFrame_sound (fr) (f : State → State) (s : State) (hs : s.ReportSound) (hf : ∀ t, t.ReportSound → (f t).ReportSound) :
    (State.laneFrame fr f s).ReportSound := by
  unfold State.laneFrame; (repeat' split)
  · exact hf _ (State.frameEnded_sound _ hs)
  · exact State.dropLane_sound _ _ hs
  · exact hs
theorem State.commandFrame_sound (i) (f : State → State) (s : State) (hs : s.ReportSound) (hf : ∀ t, t.ReportSound → (f t).ReportSound) :
    (State.commandFrame i f s).ReportSound := by
  apply State.laneFrame_sound _ _ _ hs
  intro t ht; split
  · exact hf _ ht
  · exact State.sendReply_sound _ _ ht
theorem commandAct_sound (i : Instr) (s : State) (hs : s.ReportSound) : (commandAct i s).ReportSound := by
  cases i
  case configure e => exact configureAct_sound e s hs
  case loadTable a b => exact loadTableAct_sound a b s hs
  case readTable a => exact readTableAct_sound a s hs
  case calStore a => exact calStoreAct_sound a s hs
  case calReload a => exact calReloadAct_sound a s hs
  case planWrite a b => exact planWriteAct_sound a b s hs
  case planRead a b => exact planReadAct_sound a b s hs
  case start a => exact startAct_sound a s hs
  case stop => exact stopAct_sound s hs
  case pause => exact pauseAct_sound s hs
  case continueRun => exact continueAct_sound s hs
  case status => exact statusAct_sound s hs
  case peers => exact peersAct_sound s hs
  case photos => exact photosAct_sound s hs
  case reset l => exact resetAct_sound l s
  all_goals exact hs
theorem State.receiveBytes_sound (bs) (s : State) (hs : s.ReportSound) : (s.receiveBytes bs).ReportSound := by
  unfold State.receiveBytes; split
  · unfold State.runFrame; split
    · exact commandAct_sound _ _ (State.drawnFor_sound _ _ (State.frameEnded_sound _ hs))
    · exact State.sendReply_sound _ _ (State.frameEnded_sound _ hs)
  · simpa using hs
@[simp] theorem laneByteAct_sound (b) (s : State) (hs : s.ReportSound) : (laneByteAct b s).ReportSound := by
  unfold laneByteAct; (repeat' split)
  · exact State.receiveBytes_sound _ _ hs
  · exact State.receiveBytes_sound _ _ hs
  · exact State.dropLane_sound _ _ hs
@[simp] theorem badFrameAct_sound (b) (s : State) (hs : s.ReportSound) : (badFrameAct b s).ReportSound := by
  unfold badFrameAct; split
  · exact State.laneFrame_sound _ _ _ hs (fun t ht => State.sendReply_sound _ _ ht)
  · exact hs

theorem act_sound (f : State → State) (s t : State) (hs : s.ReportSound) (hf : ∀ t, t.ReportSound → (f t).ReportSound)
    (h : act f s = .next t) : t.ReportSound := by
  unfold act at h; cases h; split
  · exact hf _ hs
  · exact hs

end Sys2Proof.Machine
end

