-- ==== Sys2Proof/Laws/Reset.lean ====
section
/-! SUPPORT. What a reset does (R187, R200, R204, R206): the loads of the rows, the rest of the state, and the records it
leaves. -/

namespace Sys2Proof.Machine

/-- A working table stands in no register of RPS, CST or CMU. -/
theorem State.setTable_others (row : Nat) (v) (s : State) : (s.setTable row v).rps = s.rps ∧ (s.setTable row v).cst = s.cst ∧ (s.setTable row v).cmu = s.cmu ∧ (s.setTable row v).time = s.time := by
  unfold State.setTable; split <;> simp

/-- The state with all that the load of a row may touch at its value before the loads. -/
def State.rest (s : State) : State := { s with
  anu := { s.anu with mirror := { s.anu.mirror with correction := [] }, head := { s.anu.head with correction := [] } }
  rgu := { s.rgu with range := .default, walk := .replicate 16 0 }
  phc := { s.phc with cameras := .replicate 4 .absent }
  rps := .reset
  cst := { s.cst with rowStates := .replicate 8 .bad, sources := .replicate 8 .default } }

theorem State.setTable_rest (row v) (s : State) : State.rest (s.setTable row v) = s.rest := by
  unfold State.setTable; split <;> rfl

theorem State.noteEvent_rest (e) (s : State) : State.rest (s.noteEvent e) = s.rest := rfl

theorem State.loadTable_rest (row) (s : State) : State.rest (s.loadTable row) = s.rest := by
  unfold State.loadTable; dsimp only
  split
  all_goals exact State.setTable_rest row _ s

theorem State.resetLoad_rest (row) (s : State) : State.rest (s.resetLoad row) = s.rest := by
  unfold State.resetLoad; split
  · exact State.loadTable_rest _ _
  · exact (State.noteEvent_rest _ _).trans (State.loadTable_rest _ _)

/-- The loads of rows touch nothing but what a load touches (R200). -/
theorem State.resetLoads_rest (rows : List Nat) (s : State) : State.rest (rows.foldl (fun t row => t.resetLoad row) s) = s.rest := by
  induction rows generalizing s with
  | nil => rfl
  | cons r rs ih => simp only [List.foldl_cons]; rw [ih, State.resetLoad_rest]

/-- The effective scale and the reset-cause record set. -/
def State.withCause (r : State) (k : Nat) (c : ResetCause) (row : Option Nat) : State :=
  { r with rgu := { r.rgu with effectiveScale := k }, cst := { r.cst with cause := c, interruptedRow := row } }

/-- A reset leaves the reset values of its blocks in all that the loads do not touch (R206). -/
theorem State.resetPart_rest (c row l) (s : State) : ∃ k, State.rest (s.resetPart c row l) = (State.rest (s.resetBlocks l)).withCause k c row ∧ (s.resetPart c row l).rgu.range.scale = k := by
  have h := State.resetLoads_rest (List.range 8) (s.resetBlocks l)
  unfold State.resetPart State.loadRows
  generalize (List.range 8).foldl (fun t row => t.resetLoad row) (s.resetBlocks l) = t at h ⊢
  rw [← h]
  exact ⟨_, rfl, rfl⟩

/-- A pending set with room for all of it below the thin threshold becomes EVENT records in its order (R183). -/
theorem Rps.serve_all (c : Settings) (now) (q : Rps) (h : q.events.length ≤ 30) (hq : q.queue.length + q.events.length < c.thinThreshold) (hr : q.queue.length + q.events.length ≤ 2048) (hth : q.thinning = false) (hport : q.port = 0) :
   q.serve c now = { queue := q.queue ++ q.events.map .event, events := [], thinning := false, port := 0 } := by
  unfold Rps.serve
  have : ∀ n (q : Rps), q.events.length ≤ n → (q.queue.length + q.events.length < c.thinThreshold) → (q.queue.length + q.events.length ≤ 2048) → (q.thinning = false) → q.port = 0 →
     q.serveRounds c now n = { queue := q.queue ++ q.events.map .event, events := [], thinning := false, port := 0 } := by
    intro n
    induction n with
    | zero => intro q h1 h2 h3 h4 h5; cases q; simp_all [Rps.serveRounds]
    | succ n ih =>
      intro q h1 h2 h3 h4 h5
      rw [Rps.serveRounds]
      split
      · rename_i he; cases q; simp_all
      · rename_i e es he
        rw [he] at h1 h2 h3; simp only [List.length_cons] at h1 h2 h3
        rw [if_pos (show q.room = true from decide_eq_true (by show q.queue.length < 2048; omega))]
        rw [Rps.append_free c now (.event e) { q with events := es } (by right; show q.queue.length + 1 < _; omega)]
        rw [ih]
        · simp [Rps.plus, he]
        · simp only [Rps.plus]; omega
        · simp only [Rps.plus, List.length_append, List.length_singleton]; omega
        · simp only [Rps.plus, List.length_append, List.length_singleton]; omega
        · simp [Rps.plus, h4]
        · simp [Rps.plus, h5]
  exact this 32 q (by omega) hq hr hth hport

/-- The loads of rows note one CAL_ROW_BAD for each row that fails, the last one its detail (R181, R187, R200). -/
theorem State.resetLoads_rps (rows : List Nat) (s : State) (hm : s.cmu.settings.eventMask = 0) :
  ∀ (q : List Nat), s.rps = ⟨[], false, (match q.getLast? with | some n => [⟨.calRowBad n .load, q.length, 0⟩] | none => []), 0⟩ → s.time = 0 → (q.length + rows.length ≤ 255) →
    (rows.foldl (fun t row => t.resetLoad row) s).rps = ⟨[], false, (match (q ++ rows.filter fun row => !(s.cst.row row).passes row).getLast? with | some n => [⟨.calRowBad n .load, (q ++ rows.filter fun row => !(s.cst.row row).passes row).length, 0⟩] | none => []), 0⟩ := by
  induction rows generalizing s with
  | nil => intro q h1 h2 _; simpa using h1
  | cons r rs ih =>
    intro q h1 h2 hlen
    simp only [List.foldl_cons]
    have hrows : ∀ x, (s.resetLoad r).cst.row x = s.cst.row x := by
      intro x; have := congrArg (fun r => r.cst.rows) (State.resetLoad_rest r s)
      unfold Cst.row; rw [show (s.resetLoad r).cst.rows = s.cst.rows from this]
    have hcmu : (s.resetLoad r).cmu = s.cmu := by have hh := congrArg (fun r : State => r.cmu) (State.resetLoad_rest r s); exact hh
    have htime : (s.resetLoad r).time = 0 := by have hh := congrArg (fun r : State => r.time) (State.resetLoad_rest r s); exact hh.trans h2
    have hl : (s.loadTable r).rps = s.rps := by unfold State.loadTable; dsimp only; split <;> exact (State.setTable_others r _ s).1
    have hlc : (s.loadTable r).cmu = s.cmu := by have hh := congrArg (fun r : State => r.cmu) (State.loadTable_rest r s); exact hh
    have hlt : (s.loadTable r).time = s.time := by have hh := congrArg (fun r : State => r.time) (State.loadTable_rest r s); exact hh
    by_cases hp : (s.cst.row r).passes r = true
    · have := ih (s.resetLoad r) (by rw [hcmu]; exact hm) q (by rw [← h1]; unfold State.resetLoad; rw [if_pos hp]; exact hl) htime (by simp at hlen; omega)
      rw [this]; simp only [hrows]; simp [hp]
    · have := ih (s.resetLoad r) (by rw [hcmu]; exact hm) (q ++ [r]) (by
          unfold State.resetLoad; rw [if_neg hp]; unfold State.noteEvent Rps.note
          rw [hlc, hl, hlt, h2]
          rw [if_neg (by simp [Settings.masks, hm])]
          rw [h1]
          simp only [State.withRps_rps]
          rcases hq : q.getLast? with _ | n
          · rw [List.getLast?_eq_none_iff] at hq; subst hq; rfl
          · simp only [List.getLast?_append, List.getLast?_singleton, insertEvent, Event.kind]
            simp; simp at hlen; omega) htime (by simp at hlen ⊢; omega)
      rw [this]; simp only [hrows]; simp [hp]

theorem State.failedRows_length (s : State) : s.failedRows.length ≤ 8 := by
  unfold State.failedRows; exact (List.length_filter_le _ _).trans (by simp)

/-- The report stream a reset leaves (R187, R204). -/
theorem State.resetPart_rps (c row l) (s : State) : (s.resetPart c row l).rps = ⟨s.resetRecords c row, false, [], 0⟩ := by
  have h := State.resetLoads_rps (List.range 8) (s.resetBlocks l) rfl [] rfl rfl (by simp)
  have h2 := State.resetLoads_rest (List.range 8) (s.resetBlocks l)
  unfold State.resetPart State.loadRows
  have hfr : ((List.range 8).filter fun row => !((s.resetBlocks l).cst.row row).passes row) = s.failedRows := rfl
  simp only [List.nil_append] at h
  rw [hfr] at h
  generalize (List.range 8).foldl (fun t row => t.resetLoad row) (s.resetBlocks l) = t at h h2 ⊢
  unfold State.recordCause State.noteEvent State.serveEvents Rps.note
  dsimp only
  have hs : t.cmu.settings = .default := by have hh := congrArg (fun r : State => r.cmu.settings) h2; exact hh
  have ht : t.time = 0 := by have hh := congrArg (fun r : State => r.time) h2; exact hh
  simp only [State.withRgu_cmu, State.withCst_cmu, State.withRgu_rps, State.withCst_rps, State.withRps_rps, State.withRps_cmu, State.withRgu_time, State.withCst_time, State.withRps_time, hs, ht, h]
  rw [if_neg (by simp [Settings.masks, Settings.default])]
  have hl := State.failedRows_length s
  unfold State.resetRecords
  rcases hq : s.failedRows.getLast? with _ | n
  · rw [Rps.serve_all]
    · simp [insertEvent]
    all_goals simp [insertEvent, Settings.default]
  · rw [Rps.serve_all]
    · simp [insertEvent, Event.kind]
    all_goals simp [insertEvent, Event.kind, Settings.default]

/-- A reset does not see whether a frame has ended. -/
theorem State.frameEnded_resetPart (c row l) (s : State) : s.frameEnded.resetPart c row l = s.resetPart c row l := rfl

end Sys2Proof.Machine
end

