-- ==== Sys2Proof/Laws/Walker.lean ====
section
/-! SUPPORT. What the walker's shared operations do in the cases that most commands meet (chapter 6). -/

namespace Sys2Proof.Machine

/-- A walk has fuel for three tasks and more. -/
theorem State.walk_eq (t : WalkTask) (s : State) : ∃ n, s.walk t = s.walkTasks (n + 3) t := by
  unfold State.walk
  exact ⟨walkFuel - 3, by congr 1; unfold walkFuel; norm_num⟩

/-- The current segment, where the segment context names a SEGMENT. -/
theorem Pwk.currentSegment_of {x : Pwk} {c : SegmentContext} {g : Segment} (h : x.segment = some c) (hr : x.record c.record = .segment g) : x.currentSegment = some g := by
  unfold Pwk.currentSegment; rw [h]; dsimp only; rw [hr]

/-- LINE_WAIT, or PAUSED where a pause is pending (R114). -/
theorem Pwk.toLineWait_eq (x : Pwk) : x.toLineWait = { x with state := if x.pausePending then .paused else .lineWait, pausePending := false } := by
  unfold Pwk.toLineWait; split
  · simp
  · rename_i h; cases x; simp_all

/-- Step 4 of R111 within a segment: the slew to the next line. -/
theorem State.nextLine_slews (u : State) (c : SegmentContext) (g : Segment) (hseg : u.pwk.segment = some c) (hrec : u.pwk.record c.record = .segment g)
   (hmore : c.lineIndex + 1 < c.lines) (hpos : u.pwk.inPosition = false ∨ u.pwk.headCommand ≠ some (g.azimuth (c.lineIndex + 1))) :
   u.nextLine = (u.withPwk { u.pwk with state := .slewing, segment := some { c with lineIndex := c.lineIndex + 1 }
                                        slew := ⟨some (g.azimuth (c.lineIndex + 1)), some u.time, false, some (u.time + 1000000000)⟩
                                        inPosition := false, headCommand := some (g.azimuth (c.lineIndex + 1)) }, none) := by
  have hcs : u.pwk.currentSegment = some g := by simp [Pwk.currentSegment, hseg, hrec]
  unfold State.nextLine
  simp only [hcs, hseg, hmore, if_true, State.slewTo, State.issueHead]
  have hz : (u.pwk.inPosition && u.pwk.headCommand == some (g.azimuth (c.lineIndex + 1))) = false := by
    rcases hpos with h | h
    · simp [h]
    · simp [h]
  simp [hz, headFaultTicks, ticksOfS]

/-- The action after a LINE_END where the segment goes on and no photo is due (R105, R111). -/
theorem State.defer_nextLine (u : State) (c : SegmentContext) (g : Segment) (hseg : u.pwk.segment = some c) (hrec : u.pwk.record c.record = .segment g)
   (hout : u.pwk.outgoing = none) (h1 : u.pwk.state ≠ .halted) (h2 : u.pwk.state ≠ .paused) (hd : photoDue g c = false)
   (hmore : c.lineIndex + 1 < c.lines) (hpos : u.pwk.inPosition = false ∨ u.pwk.headCommand ≠ some (g.azimuth (c.lineIndex + 1))) :
   u.defer .afterLine = u.withPwk { u.pwk with deferred := none, state := .slewing, segment := some { c with lineIndex := c.lineIndex + 1 }
                                               slew := ⟨some (g.azimuth (c.lineIndex + 1)), some u.time, false, some (u.time + 1000000000)⟩
                                               inPosition := false, headCommand := some (g.azimuth (c.lineIndex + 1)) } := by
  unfold State.defer State.runDeferred
  rw [if_pos ⟨by rw [State.withPwk_pwk]; simp [hout], h1, h2⟩]
  generalize hv : ((u.withPwk { u.pwk with deferred := some .afterLine }).withPwk { u.pwk with deferred := none }) = v
  have hvp : v.pwk = { u.pwk with deferred := none } := by subst hv; rfl
  obtain ⟨m, hm⟩ := State.walk_eq .afterLine v
  have s1 : v.pwk.segment = some c := by rw [hvp]; exact hseg
  have s2 : v.pwk.record c.record = .segment g := by rw [hvp]; exact hrec
  have hcs : v.pwk.currentSegment = some g := Pwk.currentSegment_of s1 s2
  have hA : v.walkTask .afterLine = (v, some .nextLine) := by
    show v.afterLine = _
    unfold State.afterLine
    rw [hcs, s1]; dsimp only; rw [hd]; rfl
  have hN := State.nextLine_slews v c g s1 s2 hmore (by rw [hvp]; exact hpos)
  have e0 : State.walk .afterLine v = v.nextLine.1 := by
    rw [hm, State.walkTasks, hA]
    dsimp only
    rw [State.walkTasks, show v.walkTask .nextLine = v.nextLine from rfl, hN]
  refine Eq.trans (congrArg (State.walk .afterLine) (show _ = v from ?_)) ?_
  · rw [← hv]; rfl
  rw [e0, hN]
  subst hv; rfl

/-- A SEGMENT taken: the slew to its first line (R99, R102). -/
theorem State.walk_takeSegment (s : State) (i : Nat) (g : Segment) (hr : s.pwk.record i = .segment g)
    (hh : s.pwk.inPosition = false ∨ s.pwk.headCommand ≠ some (g.azimuth 0)) :
    s.walk (.take i) = s.withPwk { s.pwk with
      recordIndex := i
      state := .slewing
      segment := some ⟨i, 0, g.lines, 0, 0⟩
      slew := ⟨some (g.azimuth 0), some s.time, false, some (s.time + 1000000000)⟩
      inPosition := false
      headCommand := some (g.azimuth 0) } := by
  obtain ⟨n, hn⟩ := State.walk_eq (.take i) s
  have hb : (s.pwk.inPosition && s.pwk.headCommand == some (g.azimuth 0)) = false := by
    rcases hh with h | h
    · simp [h]
    · simp [h]
  have hw : s.walkTask (.take i) = (s.withPwk { s.pwk with
      recordIndex := i
      state := .slewing
      segment := some ⟨i, 0, g.lines, 0, 0⟩
      slew := ⟨some (g.azimuth 0), some s.time, false, some (s.time + 1000000000)⟩
      inPosition := false
      headCommand := some (g.azimuth 0) }, none) := by
    show s.takeRecord i = _
    unfold State.takeRecord
    simp only [hr, State.slewTo, State.issueHead, State.withPwk_pwk, hb, Bool.false_eq_true, if_false]
    rfl
  rw [hn, State.walkTasks, hw]

/-- LINE_ABANDONED with room (R105, R109). -/
theorem State.retryLine_free (s : State) (a : AttemptRecord) (reason) (fired) (h : s.FreeReport 1) :
   s.retryLine a reason fired = (s.withPwk { s.pwk with attempt := none, attemptNumber := s.pwk.attemptNumber + 1, outgoing := none }).withRps (s.rps.plus (.lineAbandoned a.line a.attempt a.headAzimuth reason fired)) := by
  unfold State.retryLine; rw [State.placeRecord_free (k := 0) _ (by simpa using h)]; rfl

/-- The end notices of an abandoned attempt with no open shot (R44, R62, R109). -/
theorem State.endNotices_abandoned (kind : EndKind) (s : State) (a : AttemptRecord) (q : PointContext) (hs : s.rgu.openShots = []) (hq : s.pta.context = some q) (hl : q.line = a.line) (ha : q.attempt = a.attempt) (hk : kind = .abandoned) :
  s.endNotices kind a = (((s.withPwk { s.pwk with attemptLimit := none }).withEmt { s.emt with context := none, keptFired := none }).withRgu { s.rgu with record := none }).withPta { s.pta with predecessor := none, held := none, context := none } := by
  subst hk
  unfold State.endNotices State.closeNotice State.rguEnd
  simp only [State.emtClose, State.withEmt_rgu, State.withPwk_rgu, hs, State.closeAllMissing, State.ptaEnd, State.withRgu_pta, State.withEmt_pta, State.withPwk_pta, hq, hl, ha, and_self, if_true]
  rw [← hs]; rfl

/-- The abandonment of an open attempt with no open shot: the end notice, then LINE_ABANDONED (R62, R109). -/
theorem State.abandon_noShots (reason : AbandonReason) (a : AttemptRecord) (s : State) (hs : s.rgu.openShots = [])
    (he : a.ending = false) (ha : a.attempt ≠ 65535) :
    s.abandon reason a = (s.endNotices .abandoned a).recordAbandoned reason a (s.firedOf a) := by
  simp [State.abandon, he, ha, State.recordFirst, State.orderDrawn, State.endNotices, State.closeNotice, State.emtClose, hs]

/-- The same at the end of a run (R62, R119). -/
theorem State.stopAttempt_noShots (reason : AbandonReason) (a : AttemptRecord) (s : State) (hs : s.rgu.openShots = [])
    (hp : s.pwk.attempt = some a) (he : a.ending = false) :
    s.stopAttempt reason =
      (s.endNotices .abandoned a).placeRecord (.lineAbandoned a.line a.attempt a.headAzimuth reason (s.firedOf a)) := by
  simp [State.stopAttempt, hp, he, State.recordFirst, State.orderDrawn, State.endNotices, State.closeNotice, State.emtClose, hs]

end Sys2Proof.Machine
end

