-- ==== Sys2Proof/Tests/Slice0.lean ====
section
/-! SUPPORT. Small tests: the checks of well-formedness, values the manual works out, one step per command, and for every
statement with hypotheses a named state and operands that meet them. -/

namespace Sys2Proof.Tests

open Sys2Proof.Machine

set_option Elab.async false

/-! ## States for tests -/

/-- Station 5, with every other setting at its default. -/
def settings5 : Settings := { Settings.default with station := some 5 }

/-- READY, as a CONFIGURE leaves it. -/
def ready : State := State.reset.withCmu { State.reset.cmu with device := .ready, settings := settings5 }

/-- A segment of 11 lines that watches for a proximity hit. -/
def seg : Segment := ⟨0, 1000, 100, 70000, 900000, 1, .all, true, 0, 0, 2⟩

def plan1 : Vector PlanRecord 64 := (Vector.replicate 64 PlanRecord.planEnd).set 0 (.segment seg)

/-- RUNNING and LIVE, the mirror at speed and at the angle 262,144, the walker in LINE_WAIT on the first line. -/
def waiting : State := { ready with
  time := 2000000
  cmu := { ready.cmu with device := .running }
  slc := { ready.slc with membership := .live, generator := some 1 }
  anu := { ready.anu with
    mirror := { ready.anu.mirror with count := 4096 }
    monitor := .ok
    previousIndex := some 1050000
    absence := some 3150000 }
  emt := { ready.emt with startTime := some 0, schedule := some ⟨2000000, 3⟩, generator := some 1285 }
  pwk := { ready.pwk with
    plan := plan1
    state := .lineWait
    segment := some ⟨0, 0, 11, 0, 0⟩
    inPosition := true
    headCommand := some 0 } }

/-- The attempt 1 of line 1. -/
def attempt1 : AttemptRecord := ⟨1, 1, 0, 1900000, none, false⟩

/-- The same with that attempt open. -/
def firing : State := { waiting with
  pwk := { waiting.pwk with state := .line, attempt := some attempt1, attemptLimit := some 2000000 }
  emt := { waiting.emt with context := some ⟨1, 1, 70000, 900000, 1, 0, 0, false⟩ }
  rgu := { waiting.rgu with record := some ⟨1, 1, true, false⟩ }
  pta := { waiting.pta with context := some ⟨1, 1, .all, none, 0, false⟩ } }

/-- The attempt ending, its finish report sent. -/
def ending (dirty : Option DirtyMark) : State := { waiting with
  pwk := { waiting.pwk with state := .line, attempt := some { attempt1 with fired := some 7, ending := true }, inPosition := false }
  pta := ⟨none, none, none, some ⟨1, 1, dirty, 5, false⟩⟩ }

/-- A shot of that attempt. -/
def shot0 : Shot := ⟨0, 1999000, 0, 1, 1, 262144, 0⟩

/-- A peer seen LIVE 1 ms ago. -/
def peer1 : Peer := ⟨.live, 1900000, 31900000, false, false, none, false⟩

/-- The live station with one peer, of number 15. -/
def withPeer (p : Peer) (s : State) : State := s.withPru (s.pru.setPeer 15 (some p))

/-- The state that a command leaves. -/
def after (i : Instr) (s : State) : State :=
  match exec i s with
  | .next t => t
  | .fault _ => s
  | .refused _ => s

/-! ## Well-formedness: each check refuses an ill-formed command -/

theorem test_wf_camera : (Instr.cameraExposureEnd 4).wellFormed = false ∧ (Instr.cameraExposureEnd 3).wellFormed = true := by
  decide
theorem test_wf_age : (Instr.ageTimerExpiry 0).wellFormed = false ∧ (Instr.ageTimerExpiry 16).wellFormed = false := by decide
theorem test_wf_window : (Instr.quietWindowExpiry 16).wellFormed = false ∧ (Instr.quietWindowExpiry 15).wellFormed = true := by
  decide
theorem test_wf_site_frame : (Instr.siteFrameReceived 1 1 (.replicate 256 0) 0).wellFormed = false := by decide +kernel
theorem test_wf_echo_set : (Instr.echoSet ⟨true, [7, 0, 9]⟩).wellFormed = false ∧ (Instr.echoSet ⟨true, [7, 0]⟩).wellFormed = true ∧
    (Instr.echoSet ⟨false, []⟩).wellFormed = false := by decide +kernel
theorem test_wf_bad_frame : (Instr.badFrame (encodeFrame .stop)).wellFormed = false ∧
    (Instr.badFrame (frameBytes 16 [])).wellFormed = true := by decide +kernel
theorem test_wf_configure : (Instr.configure (.replicate 256 ⟨1, 5⟩)).wellFormed = false := by decide +kernel
theorem test_wf_load_table : (Instr.loadTable 0 [1, 2, 3]).wellFormed = false ∧
    (Instr.loadTable 0 (RangeTable.default.contents)).wellFormed = true := by decide +kernel
theorem test_wf_plan_write : (Instr.planWrite 0 [[4]]).wellFormed = false ∧
    (Instr.planWrite 0 [PlanRecord.planEnd.bytes]).wellFormed = true := by decide +kernel

/-! ## Values the manual works out -/

/-- The worked case after R10. -/
def workedMirror : EncoderState :=
  ⟨false, false, false, 5000, some 1000000, some 61, .twoOrMore, .forward, none, [⟨4096, 12⟩, ⟨4096, -7⟩, ⟨8192, 3⟩]⟩

theorem test_angles_worked : workedMirror.angle 14 1000000 = 319993 ∧ workedMirror.angle 14 1000037 = 320031 ∧
    workedMirror.angle 14 1000070 = 320056 := by decide

/-- The first instants of a run (section 2.2). -/
theorem test_instants_worked : lcg 771 = 23576 ∧ lcg 23576 = 64017 ∧ lcg 64017 = 49086 ∧
    intervalOf { Settings.default with dither := 20 } 771 = 180 ∧
    intervalOf { Settings.default with dither := 20 } 23576 = 194 ∧
    intervalOf { Settings.default with dither := 20 } 64017 = 220 := by decide

/-- The line generator of section 7.8. -/
theorem test_line_generator_worked : lineSeed 3 10000000 = 41591 ∧ 41591 * 32 / 65536 = 20 ∧ lcg 41591 = 46492 ∧
    lcg 46492 = 15077 ∧ lcg 15077 = 28194 ∧ lcg 28194 = 52067 := by decide

/-- The check of the nine bytes 31H to 39H (R207). -/
theorem test_crc : crc16 [0x31, 0x32, 0x33, 0x34, 0x35, 0x36, 0x37, 0x38, 0x39] = 0x29B1 := by decide +kernel

/-- The range chain of section 3.4. -/
def workedRange : Rgu := { Rgu.reset with
  range := ⟨1534937, 1200⟩
  walk := ((((Vector.replicate 16 (0 : Int)).set 2 56).set 3 48).set 4 40).set 15 (-30)
  effectiveScale := 1534955 }

theorem test_scale_worked : effectiveScaleOf 1534937 12 = 1534955 := by decide
theorem test_walk_worked : walkOf workedRange.walk 1000 = 40 ∧ walkOf workedRange.walk 512 = 56 ∧
    walkOf workedRange.walk 4000 = -30 := by decide +kernel
theorem test_tof_worked : correctedTof workedRange ⟨1000, 1000⟩ = -240 ∧ correctedTof workedRange ⟨1900, 512⟩ = 644 ∧
    correctedTof workedRange ⟨40000, 1000⟩ = 38760 ∧ correctedTof workedRange ⟨60000, 4000⟩ = 58830 := by decide +kernel

/-- The search of section 5.7. -/
def workedCamera : CameraGeometry := ⟨true, 0, 0, 87000, 65000, 11185, 11185, 2000, 1500, 4000, 3000⟩
def workedPhotos : Phc := { Phc.reset with
  cameras := .replicate 4 workedCamera
  catalogue := [⟨41, 0, 100000, 0, 0, 0, [], false, false⟩, ⟨42, 1, 1040000, 0, 0, 0, [], false, false⟩,
    ⟨43, 0, 105000, 0, 0, 0, [], false, true⟩] }

theorem test_lookup_worked : workedPhotos.lookup ⟨110000, 5000⟩ = some ⟨41, 2229, 1386⟩ := by decide +kernel

/-- Plan validation (section 6.1). -/
def workedPlan (target : Nat) : Pwk := { Pwk.reset false with
  plan := (((Vector.replicate 64 PlanRecord.planEnd).set 0 (.segment { seg with mFrom := 100000, mTo := 700000, step := 200 })).set 1
    (.photo 0 0)).set 2 (.repeatFrom target 3) }

theorem test_validation_worked : (workedPlan 0).validate 65536 0 = none ∧ (workedPlan 0).validate 65536 2 = none ∧
    (workedPlan 2).validate 65536 0 = some 2 ∧ (workedPlan 0).validate 131072 0 = some 0 := by decide +kernel

/-- The window of section 4.6 about shot 2. -/
def shotOf (returns : List Return) : ClosedShot := ⟨shot0, false, false, returns⟩

theorem test_continuity_worked :
    surviving settings5 (some (shotOf [⟨502000, 900⟩])) (some (shotOf [⟨503100, 860⟩])) [⟨502300, 880⟩, ⟨1204000, 300⟩] =
      [⟨502300, 880, false⟩] ∧
    confirmed settings5 (some (shotOf [⟨502300, 880⟩])) (some (shotOf [⟨503400, 850⟩])) 503100 = true := by decide +kernel

/-! ## One step of each command -/

theorem test_power_on : (after (.powerOn lowLevels) State.reset).rps.queue = State.reset.rps.queue ∧
    after (.powerOn lowLevels) State.reset = State.reset := by decide +kernel

/-- The write cut by a reset (section 11.7). -/
theorem test_reset_line : (after (.resetLine lowLevels) (after (.calStore 1) State.reset)).rps.queue =
    [.event ⟨.calRowBad 7 .load, 8, 0⟩, .event ⟨.resetCause .line (some 1), 1, 0⟩] := by decide +kernel

/-- A row written whole passes at the load of every reset (R200). -/
theorem test_reset_loads : (after (.resetLine lowLevels) (after .writeCompletion
      { after (.calStore 0) (ready.withRgu { ready.rgu with range := ⟨1400000, 7⟩ }) with time := 400000 })).rgu.range =
        ⟨1400000, 7⟩ ∧
    (after (.reset lowLevels) (after .writeCompletion
      { after (.calStore 0) (ready.withRgu { ready.rgu with range := ⟨1400000, 7⟩ }) with time := 400000 })).cst.source 0 =
        .store := by decide +kernel

theorem test_reset : (after (.reset lowLevels) ready).rps.queue =
    [.event ⟨.calRowBad 7 .load, 8, 0⟩, .event ⟨.resetCause .command none, 1, 0⟩, .reply ⟨15, .ok, 0, .nothing⟩] := by
  decide +kernel

theorem test_power_loss : (after .powerLoss waiting).powered = false ∧ (after .powerLoss waiting).rps.valid = false := by
  decide +kernel

/-- The sequence 00, 10, 11, 01 counts up, its reverse down with a wrap (R2). -/
theorem test_encoder_edge : (after (.encoderEdge .mirror true false) State.reset).anu.mirror.count = 1 ∧
    (after (.encoderEdge .mirror false true) State.reset).anu.mirror.count = 16383 := by decide +kernel

theorem test_encoder_index : (after (.encoderIndex .mirror true) waiting).pwk.state = .line ∧
    (after (.encoderIndex .mirror true) waiting).anu.mirror.count = 0 := by decide +kernel

theorem test_absence : (after .absenceTimerExpiry { waiting with time := 3150000 }).anu.monitor = .fault ∧
    (after .absenceTimerExpiry { waiting with time := 3149999 }).anu.monitor = .ok := by decide +kernel

theorem test_local_time_limit : (after .localTimeLimit { ready with time := 2 ^ 48 - 2 }).time = 281474976710655 := by
  decide +kernel

theorem test_tick : step ready = .next (ready.withTime 1) := rfl

/-- The mirror stands at 262,144, inside the window: the shot has tag 0 and index 0, and EMIT rises. -/
theorem test_scheduled_instant : (after .scheduledInstant firing).rgu.openShots = [⟨0, 2000000, 0, 1, 1, 262144, 0⟩] ∧
    (after .scheduledInstant firing).emt.fire = some ⟨2000005, 0⟩ := by decide +kernel

theorem test_fire_pulse_end :
    (after .firePulseEnd { after .scheduledInstant firing with time := 2000005 }).emt.fire = none := by decide +kernel

theorem test_emit_expiry : (after .emitExpiry { after .scheduledInstant firing with time := 2000400 }).emt.emit = none ∧
    (after .emitExpiry { after .scheduledInstant firing with time := 2000399 }).emt.emit = some 2000400 := by decide +kernel

/-- Two echoes of 60,000 and 1,000 units: by default K_eff, 1,405,277 range units and 23,421 (R50). -/
def twoEchoes : EchoSet := ⟨0, 2, [⟨1000, 300⟩, ⟨60000, 200⟩]⟩

theorem test_echo_set : ((after (.echoSet ⟨true, twoEchoes.bytes⟩)
    (firing.withRgu { firing.rgu with openShots := [shot0] })).pta.held.map (·.returns)) =
      some [⟨23421, 300⟩, ⟨1405277, 200⟩] := by decide +kernel

theorem test_echo_set_unmatched : (after (.echoSet ⟨true, twoEchoes.bytes⟩) firing).rps.queue.getLast? =
    some (.event ⟨.echoSlip .unmatched 0, 1, 2000000⟩) := by decide +kernel

theorem test_finish_report : (after .finishReport (ending none)).pwk.lineCounter = 2 ∧
    (after .finishReport (ending none)).pwk.headCommand = some 100 := by decide +kernel

theorem test_finish_report_dirty : (after .finishReport (ending (some ⟨.missing, 3⟩))).pwk.attemptNumber = 2 ∧
    (after .finishReport (ending (some ⟨.missing, 3⟩))).pwk.state = .lineWait := by decide +kernel

theorem test_attempt_limit : (after .attemptLimitExpiry firing).pwk.state = .lineWait ∧
    (after .attemptLimitExpiry firing).rps.queue.getLast? = some (.lineAbandoned 1 1 0 .mirror 0) := by decide +kernel

/-- The walker slews toward the first line. -/
def slewing : State := waiting.withPwk { waiting.pwk with
  state := .slewing, inPosition := false, slew := ⟨some 0, some 2000000, false, some 1002000000⟩ }

theorem test_in_position : (after .inPositionRise slewing).pwk.state = .lineWait := by decide +kernel

theorem test_head_fault : (after .headFaultTimerExpiry { slewing with time := 1002000000 }).pwk.state = .faulted := by
  decide +kernel

/-- A photo of cameras 0 and 3, interleaved in the first segment, asked for at 2,000,000. -/
def photo (s : PhotoState) (timer : Nat) (live : Bool) : State := { waiting with
  pwk := { waiting.pwk with state := .photo, saved := waiting.pwk.segment, inPosition := false }
  phc := { Phc.reset with
    cameras := .replicate 4 { workedCamera with azOffset := 5 }
    sequence := s
    effectiveMask := 9
    ownQuiet := true
    timer := some timer
    requestW := 280
    requestSent := true
    expected := if s = .grantWait then [15] else []
    exposure := if s = .expose then ⟨some 1000000, some 10, [], .replicate 4 ⟨true, 10000, false⟩⟩ else .cleared }
  pru := if live then waiting.pru.setPeer 15 (some peer1) else waiting.pru }

/-- A longest exposure of 10 ms gives W = 250 + 10 + 20 (R82). -/
theorem test_settle_end : (after .settleEnd (photo .settle 2000000 true)).phc.requestW = 280 ∧
    (after .settleEnd (photo .settle 2000000 true)).phc.sequence = .grantWait ∧
    (after .settleEnd (photo .settle 2000000 false)).phc.sequence = .expose := by decide +kernel

theorem test_grant_timeout : (after .grantTimeout (photo .grantWait 2000000 true)).phc.exposure.ungranted = [15] ∧
    (after .grantTimeout (photo .grantWait 2000000 true)).phc.sequence = .expose := by decide +kernel

theorem test_camera_exposure_end :
    ((after (.cameraExposureEnd 3) (photo .expose 2000000 false)).phc.exposure.cameras.toList.map (·.trigger)) =
      [true, true, true, false] := by decide +kernel

theorem test_photo_release : (after .photoRelease (photo .expose 2000000 false)).phc.catalogue.map (fun p => (p.number, p.camera, p.azimuth)) =
    [(1, 0, 15), (2, 3, 15)] ∧ (after .photoRelease (photo .expose 2000000 false)).pwk.headCommand = some 100 := by
  decide +kernel

/-- A beacon waits for the line: the generator's value 41,591 gives 20 slots (section 7.8). -/
def pendingBeacon : State := waiting.withSlc { waiting.slc with
  generator := some 15077, tx := .wait, backoff := 20, access := some 2000000, pendingBeacon := true }

theorem test_carrier_rise : (after .carrierSenseRise { pendingBeacon with slc := { pendingBeacon.slc with generator := some 28194 } }).slc.backoff = 13 ∧
    (after .carrierSenseRise pendingBeacon).slc.jam = some 22000000 := by decide +kernel

/-- The access expiry of a backoff of 20 slots is 384 µs after the fall (section 7.8). -/
theorem test_carrier_fall : (after .carrierSenseFall { pendingBeacon with slc := { pendingBeacon.slc with carrierSense := true } }).slc.access =
    some 2038400 := by decide +kernel

/-- A LIVE beacon with no grants: 11 bytes, 110 µs (section 7.8, R217). -/
theorem test_access_expiry : (after .accessTimerExpiry pendingBeacon).slc.frame.map (fun f => (f.bytes.take 9, f.finish)) =
    some ([0x55, 0x55, 0xD3, 5, 1, 3, 2, 0, 0], 2011000) := by decide +kernel

/-- The value 46,492 gives a jitter of 14 ms (section 7.8). -/
theorem test_sending_end : (after .sendingEnd { waiting with slc := { waiting.slc with
    tx := .send, generator := some 46492, frame := some ⟨.beacon, [], 2000000, false, false⟩ } }).slc.beaconTimer =
      some (2000000 + 11400000) := by decide +kernel

/-- The transmitter has found the line busy for 200 ms. -/
def jammed : State := waiting.withSlc { waiting.slc with
  tx := .wait, carrierSense := true, jam := some 2000000, pendingBeacon := true }

theorem test_jam : (after .jamTimerExpiry jammed).rps.queue.getLast? = some (.event ⟨.lineJammed false false true, 1, 2000000⟩) := by
  decide +kernel

theorem test_beacon_timer : (after .beaconTimerExpiry (waiting.withSlc { waiting.slc with beaconTimer := some 2000000 })).slc.pendingBeacon =
    true := by decide +kernel

theorem test_leave_timer : (after .leaveTimerExpiry (waiting.withSlc { waiting.slc with
    membership := .leaving, tx := .wait, leaveTimer := some 2000000, pendingBeacon := true })).slc.membership = .offline := by
  decide +kernel

/-- A whole QUIET frame from station 15, of W = 600, clamped to 500 (R155). -/
def quiet600 : Instr := .siteFrameReceived 15 2 [0x58, 2] (crc16 [15, 2, 2, 0x58, 2])

theorem test_site_frame : ((after quiet600 waiting).pru.peer 15).map (·.window) = some (some (2000000 + 50000000)) ∧
    (after (.siteFrameReceived 15 2 [0x58, 2] 0) waiting).slc.counters.check = 1 := by decide +kernel

theorem test_site_byte : (after (.siteByteReceived 0xD3 true) { waiting with
    slc := { waiting.slc with assembler := .hunt true } }).slc.assembler = .header [] := by decide +kernel

/-- A frame in assembly. -/
def assembling : State := waiting.withSlc { waiting.slc with assembler := .header [15, 2], byteGap := some 2000000 }

theorem test_byte_gap : (after .byteGapExpiry assembling).slc.counters.broken = 1 := by decide +kernel

theorem test_age_timer : (after (.ageTimerExpiry 15) (withPeer { peer1 with age := 2000000 } waiting)).pru.entries = [] ∧
    (after (.ageTimerExpiry 15) (withPeer { peer1 with age := 2000000 } waiting)).rps.queue.getLast? =
      some (.event ⟨.peerLost 15 .aged, 1, 2000000⟩) := by decide +kernel

/-- A run armed at the end of its join window. -/
def joining : State := { waiting with
  slc := { waiting.slc with membership := .joining }
  pru := { waiting.pru with joinTimer := some 2000000 }
  pwk := { waiting.pwk with state := .idle, armed := true, segment := none, inPosition := false } }

theorem test_join_timer : (after .joinTimerExpiry joining).slc.membership = .live ∧
    (after .joinTimerExpiry joining).pwk.state = .slewing := by decide +kernel

theorem test_window_expiry : (after (.quietWindowExpiry 15) (withPeer { peer1 with window := some 2000000 } waiting)).rps.queue.getLast? =
    some (.event ⟨.quietClosed 15 .expiry, 1, 2000000⟩) := by decide +kernel

theorem test_report_word : (after .reportWordTaken ready).rps.port = 1 := by decide +kernel

theorem test_lane_byte_dropped : (after .laneByteDropped (ready.withCmu { ready.cmu with ready := false, laneDiscards := 65535 })).cmu.laneDiscards =
    65535 := by decide +kernel

/-- STOP's frame is cut after its header (R191). -/
def cutFrame : State := ready.withCmu { ready.cmu with receiver := some [9, 0, 0], laneGap := some 0, ready := false }

theorem test_lane_gap : (after .laneGapExpiry cutFrame).rps.queue.getLast? = some (.reply ⟨9, .badValue, 1, .nothing⟩) := by
  decide +kernel

theorem test_bad_frame : (after (.badFrame [9, 0, 0, 0, 0]) ready).rps.queue.getLast? = some (.reply ⟨9, .badValue, 2, .nothing⟩) := by
  decide +kernel

/-- Two settings clamped: P of 50 to 100, and the D of 25 to floor(100/8). -/
theorem test_configure : (after (.configure [⟨1, 5⟩, ⟨7, 50⟩, ⟨8, 25⟩]) State.reset).cmu.settings.dither = 12 ∧
    (after (.configure [⟨1, 5⟩, ⟨7, 50⟩, ⟨8, 25⟩]) State.reset).rps.queue.getLast? =
      some (.reply ⟨1, .ok, 0, .configured 2 7⟩) := by decide +kernel

theorem test_configure_refused : (after (.configure [⟨1, 5⟩, ⟨30, 0⟩]) State.reset).rps.queue.getLast? =
    some (.reply ⟨1, .badValue, 5, .setting 30⟩) := by decide +kernel

theorem test_load_table : (after (.loadTable 0 (le 4 1400000 ++ le 2 1200)) ready).rgu.range = ⟨1400000, 1200⟩ ∧
    (after (.loadTable 0 (le 4 1399999 ++ le 2 1200)) ready).rps.queue.getLast? =
      some (.reply ⟨2, .badValue, 5, .setting 1⟩) := by decide +kernel

theorem test_read_table : (after (.readTable 0) ready).rps.queue.getLast? =
    some (.reply ⟨3, .ok, 0, .table 0 .default .bad [0xD9, 0x6B, 0x17, 0, 0, 0]⟩) := by decide +kernel

theorem test_cal_store : (after (.calStore 1) ready).cst.write.map (·.expiry) = some 400000 ∧
    (after (.calStore 1) ready).cst.rowState 1 = .writing := by decide +kernel

theorem test_write_completion : (after .writeCompletion { after (.calStore 1) ready with time := 400000 }).cst.rowState 1 = .good := by
  decide +kernel

theorem test_cal_reload : (after (.calReload 1) ready).rps.queue.getLast? = some (.reply ⟨5, .ok, 2, .nothing⟩) := by
  decide +kernel

theorem test_plan_write : (after (.planWrite 63 [(PlanRecord.segment seg).bytes]) ready).pwk.record 63 = .segment seg := by
  decide +kernel

theorem test_plan_read : (after (.planRead 63 1) ready).rps.queue.getLast? = some (.reply ⟨7, .ok, 0, .plan 63 [.planEnd]⟩) := by
  decide +kernel

/-- The START of section 7.8: station 3 at local time 10,000,000. -/
def ready3 : State := { ready with
  time := 10000000, cmu := { ready.cmu with settings := { settings5 with station := some 3, dither := 20 } } }

theorem test_start : (after (.start 0) ready3).slc.access = some 10038400 ∧
    (after (.start 0) ready3).emt.schedule = some ⟨10000180, 0⟩ ∧ (after (.start 0) ready3).slc.generator = some 46492 := by
  decide +kernel

theorem test_stop : (after .stop waiting).slc.membership = .leaving ∧ (after .stop waiting).pwk.state = .idle ∧
    (after .stop waiting).rps.queue.getLast? = some (.reply ⟨9, .ok, 0, .nothing⟩) := by decide +kernel

theorem test_pause : (after .pause waiting).pwk.state = .paused ∧ (after .pause firing).pwk.pausePending = true := by
  decide +kernel

theorem test_continue : (after .continueRun (waiting.withPwk { waiting.pwk with state := .paused })).pwk.state = .lineWait ∧
    (after .continueRun waiting).rps.queue.getLast? = some (.reply ⟨11, .wrongState, 0, .nothing⟩) := by decide +kernel

theorem test_status : (after .status ready).rps.queue.length = 3 := by decide +kernel
theorem test_peers : (after .peers (withPeer peer1 waiting)).rps.queue.getLast? = some (.reply ⟨13, .ok, 0,
    .peers (some 5) .live [⟨15, .live, 1, false, false, false, none⟩] ⟨0, 0, 0, 0, 0⟩⟩) := by decide +kernel
theorem test_photos : (after .photos ready).rps.queue.getLast? = some (.reply ⟨14, .ok, 0, .photos [] (some 1) .idle⟩) := by
  decide +kernel
theorem test_lane_byte : (after (.laneByteReceived 9) ready).cmu.receiver = some [9] := by decide +kernel

/-! ## Witnesses: states and operands that meet the hypotheses of each statement -/

theorem witness_step : (ready.withPending [.stop, .pause]).pending = Instr.stop :: [.pause] := rfl

theorem witness_local_time : (ready.pending = [] ∧ { ready with powered := false }.powered = false) ∧
    (ready.powered = true ∧ { ready with time := 2 ^ 48 - 2 }.time < 2 ^ 48 - 1) ∧
    { ready with time := 2 ^ 48 - 1 }.time = 2 ^ 48 - 1 ∧ 2 ^ 48 - 2 ≤ { ready with time := 2 ^ 48 - 2 }.time ∧
    { ready with time := 2 ^ 48 - 3 }.time < 2 ^ 48 - 2 := by decide +kernel

theorem witness_resets : waiting.powered = true ∧ waiting.Takes (.reset lowLevels) := by
  unfold State.Takes; decide +kernel

theorem witness_power_loss : waiting.powered = true ∧ { waiting with powered := false }.powered = false ∧
    ∀ levels, Instr.stop ≠ .powerOn levels := ⟨by decide +kernel, rfl, fun _ => nofun⟩

/-- The mirror accepted its last pair exactly 4 ticks ago. -/
def edged : State := waiting.withAnu { waiting.anu with
  mirror := { waiting.anu.mirror with acceptTime := some 1999996, edgesSeen := .twoOrMore, edgeTime := some 1999996 } }

theorem witness_quadrature : edged.powered = true ∧
    (((true ≠ (edged.anu.encoder .mirror).a ∧ false = (edged.anu.encoder .mirror).b) ∨
      (true = (edged.anu.encoder .mirror).a ∧ false ≠ (edged.anu.encoder .mirror).b))) ∧
    (∀ t0, (edged.anu.encoder .mirror).acceptTime = some t0 → t0 + 4 ≤ edged.time ∨ edged.time = 2 ^ 48 - 1) ∧
    { edged with time := 2 ^ 48 - 1 }.time = 2 ^ 48 - 1 :=
  ⟨by decide +kernel, by decide +kernel, fun t0 h => by cases h; decide +kernel, rfl⟩

theorem witness_edges : edged.powered = true ∧ true ≠ (edged.anu.encoder .mirror).a ∧ true ≠ (edged.anu.encoder .mirror).b ∧
    (∀ t0, (edged.anu.encoder .mirror).acceptTime = some t0 → t0 + 4 ≤ edged.time ∨ edged.time = 2 ^ 48 - 1) ∧
    (false = (edged.anu.encoder .mirror).a ∧ false = (edged.anu.encoder .mirror).b) ∧
    (∃ t0, (edged.anu.encoder .mirror).acceptTime = some t0 ∧ { edged with time := 1999999 }.time < t0 + 4 ∧
      { edged with time := 1999999 }.time < 2 ^ 48 - 1) ∧
    edged.anu.head.indexLevel = false ∧
    ((EncoderState.reset false false true []).indexLevel = true ∧ (EncoderState.reset false false false []).indexLevel = false) :=
  ⟨by decide +kernel, by decide +kernel, by decide +kernel, fun t0 h => by cases h; decide +kernel, by decide +kernel,
    ⟨1999996, by decide +kernel⟩, by decide +kernel, by decide +kernel⟩

/-- The walker is idle at a mirror index; the monitor stands as given. -/
def indexed (m : MonitorState) (run previous : Nat) : State := { waiting with
  anu := { waiting.anu with monitor := m, inRangeRun := run, previousIndex := some previous }
  pwk := { waiting.pwk with state := .idle } }

theorem witness_mirror_period : (indexed .ok 0 1050000).powered = true ∧ (indexed .ok 0 1050000).anu.mirror.indexLevel = false ∧
    (indexed .ok 0 1050000).pwk.state ≠ .lineWait ∧ (indexed .ok 0 1050000).pwk.state ≠ .line ∧
    (indexed .ok 0 1050000).FreeReport 1 ∧
    ({ waiting.anu with previousIndex := none }.previousIndex = none) ∧
    (settings5.periodLow * 100 ≤ 2000000 - 1050000 ∧ 2000000 - 1050000 ≤ settings5.periodHigh * 100) ∧
    (settings5.periodLow * 100 ≤ 2000000 - 950000 ∧ 2000000 - 950000 ≤ settings5.periodHigh * 100) ∧
    ((indexed .fault 1 1050000).anu.monitor ≠ .ok ∧ (indexed .fault 1 1050000).anu.inRangeRun < 2) ∧
    ((indexed .spinup 2 950000).anu.monitor ≠ .ok ∧ 2 ≤ (indexed .spinup 2 950000).anu.inRangeRun) ∧
    (2000000 - 1050001 < settings5.periodLow * 100 ∧ settings5.periodHigh * 100 < 2000000 - 949999) := by
  unfold State.FreeReport; decide +kernel

theorem witness_shot_path_timers : { waiting with time := 3150000 }.powered = true ∧
    { waiting with time := 3150000 }.anu.monitor = .ok ∧ { waiting with time := 3150000 }.anu.absence = some 3150000 ∧
    { waiting with time := 3150000 }.FreeReport 1 ∧
    (after .scheduledInstant firing).emt.fire = some ⟨2000005, 0⟩ ∧ (after .scheduledInstant firing).emt.emit = some 2000400 := by
  unfold State.FreeReport; decide +kernel

theorem witness_angle : 14 ≤ 20 ∧ ([] : List CorrectionSegment).map (·.span) = [] ∧
    ((workedMirror.correction.map (·.span)).sum ≤ { workedMirror with count := 16384 }.count) ∧
    workedMirror.edgesSeen = .twoOrMore ∧ workedMirror.edgeTime = some 1000000 ∧ workedMirror.interval = some 61 ∧ 0 < 61 ∧
    (EncoderState.reset false false false []).edgesSeen ≠ .twoOrMore ∧
    workedMirror.correction = [⟨4096, 12⟩] ++ ⟨4096, -7⟩ :: [⟨8192, 3⟩] ∧
    (([⟨4096, 12⟩] : List CorrectionSegment).map (·.span)).sum ≤ { workedMirror with count := 4096 }.count ∧
    { workedMirror with count := 8191 }.count < (([⟨4096, 12⟩] : List CorrectionSegment).map (·.span)).sum + 4096 := by decide

theorem witness_view : 1048575 < 2 ^ 20 ∧ (524288 ≤ 524288 ∧ 524288 < 2 ^ 20) ∧ (524288 < 524289 ∧ 524289 < 2 ^ 20) := by decide

theorem witness_wrap : ∃ k : Int, ((0 : Nat) : Int) - (524288 : Nat) = 524288 + k * 2 ^ 20 := ⟨-1, by decide⟩

theorem witness_dither : 65535 < 65536 ∧ { settings5 with dither := 0 }.dither = 0 ∧ settings5.dither ≤ settings5.basePeriod / 8 ∧
    { settings5 with basePeriod := 100, dither := 12 }.basePeriod = 100 := by decide +kernel

theorem witness_instant_passes : waiting.powered = true ∧ waiting.emt.schedule = some ⟨2000000, 3⟩ ∧ 2000000 ≤ waiting.time ∧
    waiting.emt.generator = some 1285 ∧ waiting.emt.context = none := by decide +kernel

/-- One more shot is open. -/
def firingOne : State := firing.withRgu { firing.rgu with openShots := [shot0] }

theorem witness_shot_fired : firingOne.powered = true ∧ firingOne.emt.schedule = some ⟨2000000, 3⟩ ∧ 2000000 ≤ firingOne.time ∧
    firingOne.emt.generator = some 1285 ∧ firingOne.gateOpen ∧ firingOne.emt.context = some ⟨1, 1, 70000, 900000, 1, 0, 0, false⟩ ∧
    firingOne.rgu.record = some ⟨1, 1, true, false⟩ ∧ firingOne.rgu.openShots.length ≤ 1 :=
  ⟨by decide +kernel, by decide +kernel, by decide +kernel, by decide +kernel,
    ⟨by decide +kernel, by decide +kernel, by decide +kernel, by decide +kernel, by decide +kernel, by decide +kernel,
      by decide +kernel, ⟨1, 1, 70000, 900000, 1, 0, 0, false⟩, by decide +kernel⟩, by decide +kernel, by decide +kernel,
    by decide +kernel⟩

/-- Two more shots are open, shot 0 the older. -/
def firingTwo : State := firing.withRgu { firing.rgu with openShots := [shot0, { shot0 with tag := 1, index := 1 }] }

theorem witness_third_shot : firingTwo.powered = true ∧ firingTwo.emt.schedule = some ⟨2000000, 3⟩ ∧ firingTwo.gateOpen ∧
    firingTwo.rgu.openShots = [shot0, { shot0 with tag := 1, index := 1 }] ∧
    firingTwo.pta.context = some ⟨1, 1, .all, none, 0, false⟩ ∧ shot0.line = 1 ∧ shot0.attempt = 1 ∧ firingTwo.pta.held = none :=
  ⟨by decide +kernel, by decide +kernel,
    ⟨by decide +kernel, by decide +kernel, by decide +kernel, by decide +kernel, by decide +kernel, by decide +kernel,
      by decide +kernel, ⟨1, 1, 70000, 900000, 1, 0, 0, false⟩, by decide +kernel⟩, by decide +kernel, by decide +kernel,
    by decide +kernel, by decide +kernel, by decide +kernel⟩

theorem witness_fire_gate : exec .scheduledInstant firing = .next (after .scheduledInstant firing) ∧
    (after .scheduledInstant firing).emt.fire = some ⟨2000005, 0⟩ ∧ firing.emt.fire ≠ some ⟨2000005, 0⟩ :=
  ⟨rfl, by decide +kernel, by decide +kernel⟩

/-- A peer's quiet window stands open over an attempt. -/
def quieted : State := withPeer { peer1 with window := some 3000000 } firing

theorem witness_interruption : quieted.powered = true ∧ quieted.emt.schedule = some ⟨2000000, 3⟩ ∧ 2000000 ≤ quieted.time ∧
    quieted.emt.context = some ⟨1, 1, 70000, 900000, 1, 0, 0, false⟩ ∧
    EmitContext.candidate quieted.cmu.settings.blindHalfWidth (quieted.angle .mirror) ⟨1, 1, 70000, 900000, 1, 0, 0, false⟩ = true ∧
    quieted.pwk.attempt = some attempt1 ∧ quieted.pwk.pausePending = false ∧
    quieted.rgu.openShots = [] ∧ quieted.pta.held = none ∧
    quieted.pta.context.all (fun p => p.line == 1 && p.attempt == 1) = true ∧ quieted.FreeReport 1 := by
  unfold State.FreeReport; decide +kernel

/-- A peer whose quiet window and hold both stand closes the last two of the six conditions. -/
def quietedHeld : State := withPeer { peer1 with window := some 3000000, hold := true } firing

theorem witness_conditions :
    (false = true ↔ quietedHeld.cmu.device ≠ .running ∨ quietedHeld.slc.membership ≠ .live) ∧
    (false = true ↔ quietedHeld.anu.monitor ≠ .ok) ∧ (false = true ↔ quietedHeld.pwk.state ≠ .line) ∧
    (false = true ↔ quietedHeld.phc.ownQuiet = true) ∧
    (true = true ↔ ∃ n p, quietedHeld.pru.peer n = some p ∧ p.window.isSome = true) ∧
    (true = true ↔ quietedHeld.cmu.settings.honourHolds = true ∧ ∃ n p, quietedHeld.pru.peer n = some p ∧ p.hold = true) ∧
    EmitContext.candidate quietedHeld.cmu.settings.blindHalfWidth (quietedHeld.angle .mirror) ⟨1, 1, 70000, 900000, 1, 0, 0, false⟩ =
      true ∧ quietedHeld.FreeReport 1 := by
  refine ⟨by decide +kernel, by decide +kernel, by decide +kernel, by decide +kernel, ⟨fun _ => ⟨15, _, rfl, rfl⟩, fun _ => rfl⟩,
    ⟨fun _ => ⟨rfl, 15, _, rfl, rfl⟩, fun _ => rfl⟩, by decide +kernel, ?_⟩
  unfold State.FreeReport; decide +kernel

/-- Each closed condition has its bit in the GATE detail (R212). -/
theorem test_gate_bits : (after .scheduledInstant quietedHeld).rps.queue.getLast? =
      some (.lineAbandoned 1 1 0 (.gate ⟨false, false, false, false, true, true⟩) 0) ∧
    field (Record.lineAbandoned 1 1 0 (.gate ⟨false, false, false, false, true, true⟩) 0).bytes 13 4 = 48 := by decide +kernel

theorem test_interruption_pauses :
    (after .scheduledInstant (quieted.withPwk { quieted.pwk with pausePending := true })).pwk.state = .paused := by decide +kernel

theorem witness_walk : 4095 < 4096 ∧ (∀ x ∈ Vector.replicate 16 (-2048 : Int), -2048 ≤ x ∧ x ≤ 2047) ∧ 4095 / 256 = 15 ∧
    3839 / 256 = 14 ∧ 3584 % 256 = 0 :=
  ⟨by decide, fun x h => by rw [Vector.mem_replicate] at h; obtain ⟨-, rfl⟩ := h; decide, by decide, by decide, by decide⟩

/-- The line without a watch. -/
def unwatched : State := firing.withRgu { firing.rgu with record := some ⟨1, 1, false, false⟩, openShots := [shot0] }

theorem witness_echoes : unwatched.powered = true ∧ unwatched.cmu.device = .running ∧ twoEchoes.tag < 256 ∧ twoEchoes.count = twoEchoes.echoes.length ∧ twoEchoes.count ≤ 6 ∧
    (∀ x ∈ twoEchoes.echoes, x.tof < 2 ^ 20 ∧ x.amplitude < 4096) ∧ (twoEchoes.echoes.map (·.tof)).Pairwise (· < ·) ∧
    unwatched.rgu.openShots = [shot0] ∧ shot0.tag = twoEchoes.tag ∧ unwatched.rgu.record = some ⟨1, 1, false, false⟩ ∧
    unwatched.pta.context = some ⟨1, 1, .all, none, 0, false⟩ ∧ unwatched.pta.held = none := by decide +kernel

/-- The same with an older shot open, and with a shot held. -/
def unwatchedOlder : State := unwatched.withRgu { unwatched.rgu with openShots := [{ shot0 with tag := 255, index := 4 }, shot0] }
def unwatchedHeld : State := unwatched.withPta { unwatched.pta with held := some (shotOf [⟨502000, 900⟩]) }

theorem witness_echoes_judge : unwatchedOlder.rgu.openShots = [{ shot0 with tag := 255, index := 4 }] ++ shot0 :: [] ∧
    { shot0 with tag := 255 }.tag ≠ twoEchoes.tag ∧ unwatchedOlder.pta.held = none ∧
    unwatchedOlder.pta.context = some ⟨1, 1, .all, none, 0, false⟩ ∧
    unwatchedOlder.rgu.record = some ⟨1, 1, false, false⟩ ∧ unwatchedHeld.rgu.openShots = [] ++ shot0 :: [] ∧
    unwatchedHeld.pta.held = some (shotOf [⟨502000, 900⟩]) := by decide +kernel

/-- A watched shot whose nearest echo, at 23,421 range units, stands at the proximity limit raises no hit (R52). -/
def watched : State := { firing with
  cmu := { firing.cmu with settings := { settings5 with proximityLimit := 23421 } }
  rgu := { firing.rgu with openShots := [shot0] } }

theorem witness_watched : watched.rgu.record = some ⟨1, 1, true, false⟩ ∧ watched.rgu.openShots = [shot0] ∧
    ∀ x ∈ twoEchoes.echoes.take 4, ∀ tc : Int, tc = (x.tof : Int) - watched.rgu.range.zero - walkOf watched.rgu.walk x.amplitude →
      0 < tc → watched.cmu.settings.proximityLimit ≤ (tc.toNat * watched.rgu.effectiveScale + 32768) / 65536 := by
  refine ⟨rfl, rfl, fun x h tc e _ => ?_⟩
  subst e
  revert x
  decide +kernel

theorem test_watched : (after (.echoSet ⟨true, twoEchoes.bytes⟩) watched).pwk.state = .line ∧
    (after (.echoSet ⟨true, twoEchoes.bytes⟩) watched).pta.held.map (·.returns) = some [⟨23421, 300⟩, ⟨1405277, 200⟩] := by
  decide +kernel

theorem witness_echo_sets : parseTransfer twoEchoes.bytes = some (twoEchoes, []) ∧ ready.powered = true ∧
    ready.FreeReport 1 ∧ ready.cmu.device ≠ .running ∧
    waiting.FreeReport 1 ∧ (parseTransfer ([9, 7] ++ .replicate 28 0)).map (fun p => (p.1.count, p.2)) = some (7, []) ∧
    parseTransfer [9, 2, 5, 0, 0, 0, 5, 0, 0, 0] = some (⟨9, 2, [⟨5, 0⟩, ⟨5, 0⟩]⟩, []) ∧
    ¬ (([⟨5, 0⟩, ⟨5, 0⟩] : List Echo).map (·.tof)).Pairwise (· < ·) := by
  unfold State.FreeReport; decide +kernel

/-- A transfer cut one byte before its end. -/
theorem witness_echo_parts : firing.rgu.transfer = [] ∧ parseTransfer (twoEchoes.bytes.take 9) = none ∧
    twoEchoes.bytes.take 9 ≠ [] ∧
    exec (.echoSet ⟨true, twoEchoes.bytes.take 9⟩) firing = .next (after (.echoSet ⟨true, twoEchoes.bytes.take 9⟩) firing) :=
  ⟨by decide +kernel, by decide +kernel, by decide +kernel, rfl⟩

theorem test_echo_parts : after (.echoSet ⟨false, twoEchoes.bytes.drop 9⟩) (after (.echoSet ⟨true, twoEchoes.bytes.take 9⟩) firing) =
    after (.echoSet ⟨true, twoEchoes.bytes⟩) firing := by decide +kernel

theorem witness_continuity : ({ settings5 with continuity := .off }.continuity = .off) ∧ settings5.continuity = .oneSide ∧
    { settings5 with continuity := .both }.continuity = .both ∧ (shotOf []).returns = [] := by decide +kernel

/-- The unconfirmed action (R69): the return that no neighbour confirms is dropped, or kept with its flag. -/
theorem test_unconfirmed : surviving settings5 (some (shotOf [⟨502000, 900⟩])) none [⟨502300, 880⟩, ⟨1204000, 300⟩] =
      [⟨502300, 880, false⟩] ∧
    surviving { settings5 with unconfirmed := .mark } (some (shotOf [⟨502000, 900⟩])) none [⟨502300, 880⟩, ⟨1204000, 300⟩] =
      [⟨502300, 880, false⟩, ⟨1204000, 300, true⟩] := by decide +kernel

theorem witness_select : ([⟨5, 9, false⟩] : List PointReturn) ≠ [] := by decide

theorem witness_colour : workedPhotos.catalogue = [⟨41, 0, 100000, 0, 0, 0, [], false, false⟩] ++
    ⟨42, 1, 1040000, 0, 0, 0, [], false, false⟩ :: [⟨43, 0, 105000, 0, 0, 0, [], false, true⟩] ∧
    (workedPhotos.camera 1).present = true ∧ (wrapDiff 1045000 1040000).natAbs ≤ (workedPhotos.camera 1).halfWidthAz ∧
    ((-2000 : Int) - 0).natAbs ≤ (workedPhotos.camera 1).halfWidthEl ∧ 1 ≤ (workedPhotos.camera 1).width ∧
    1 ≤ (workedPhotos.camera 1).height ∧ Phc.reset.catalogue = [] := by decide +kernel

/-- Returns that agree, in NORMAL and in THINNING at an even and an odd index, and at the point limit. -/
theorem witness_point : waiting.pta.context = none ∧ firing.pta.context = some ⟨1, 1, .all, none, 0, false⟩ ∧
    select .all (surviving settings5 (some (shotOf [⟨502000, 900⟩])) none [⟨502300, 880⟩]) ≠ [] ∧
    select .all (surviving settings5 none none [⟨502300, 880⟩]) = [] ∧ { shot0 with index := 1 }.index % 2 = 1 ∧
    shot0.index % 2 = 0 ∧ { firing.rps with thinning := true }.thinning = true ∧ firing.rps.thinning = false ∧
    firing.rps.queue.length < 1984 ∧ firing.FreeReport 1 ∧ 1984 ≤ (List.replicate 1984 Record.isPoint).length := by
  unfold State.FreeReport; decide +kernel

theorem witness_attempt_opens : waiting.powered = true ∧ waiting.anu.mirror.indexLevel = false ∧ waiting.anu.monitor = .ok ∧
    waiting.anu.previousIndex = some 1050000 ∧ waiting.cmu.settings.periodLow * 100 ≤ waiting.time - 1050000 ∧
    waiting.time - 1050000 ≤ waiting.cmu.settings.periodHigh * 100 ∧ waiting.pwk.state = .lineWait ∧
    waiting.pwk.currentSegment = some seg ∧
    (waiting.pwk.inPosition = true ∧ waiting.slc.membership = .live ∧ waiting.pru.quietClosed = false ∧
      holdStanding waiting.cmu.settings waiting.pru = false ∧ waiting.pwk.outgoing = none) ∧ waiting.FreeReport 1 ∧
    (withPeer { peer1 with window := some 3000000 } waiting).pru.quietClosed = true ∧
    holdStanding settings5 (withPeer { peer1 with hold := true } waiting).pru = true := by
  unfold State.FreeReport; decide +kernel

/-- LINE_WAIT at a mirror index, the monitor as given. -/
def waitingIndexed (m : MonitorState) (run : Nat) (previous : Option Nat) : State := waiting.withAnu
  { waiting.anu with monitor := m, inRangeRun := run, previousIndex := previous }

theorem witness_attempt_refused : (waitingIndexed .fault 1 (some 1050000)).powered = true ∧
    (waitingIndexed .fault 1 (some 1050000)).anu.mirror.indexLevel = false ∧
    (waitingIndexed .fault 1 (some 1050000)).pwk.state = .lineWait ∧ (waitingIndexed .fault 1 (some 1050000)).FreeReport 1 ∧
    (waitingIndexed .fault 1 (some 1050000)).anu.monitor ≠ .ok ∧ (waitingIndexed .fault 1 (some 1050000)).anu.inRangeRun < 2 ∧
    (waitingIndexed .spinup 2 none).anu.previousIndex = none ∧
    (waitingIndexed .ok 0 (some 1050001)).time - 1050001 < settings5.periodLow * 100 ∧
    settings5.periodHigh * 100 < (waitingIndexed .ok 0 (some 949999)).time - 949999 ∧
    (waitingIndexed .ok 0 (some 949999)).anu.monitor = .ok := by
  unfold State.FreeReport; decide +kernel

theorem witness_attempt_ends : firing.powered = true ∧ firing.anu.mirror.indexLevel = false ∧ firing.anu.monitor = .ok ∧
    firing.anu.previousIndex = some 1050000 ∧ firing.cmu.settings.periodLow * 100 ≤ firing.time - 1050000 ∧
    firing.time - 1050000 ≤ firing.cmu.settings.periodHigh * 100 ∧ firing.pwk.state = .line ∧ firing.pwk.attempt = some attempt1 ∧
    attempt1.ending = false ∧ firing.emt.context = some ⟨1, 1, 70000, 900000, 1, 0, 0, false⟩ ∧ firing.rgu.openShots = [] ∧
    firing.pta.held = none ∧ firing.pta.context = some ⟨1, 1, .all, none, 0, false⟩ := by decide +kernel

/-- The attempt with a shot held and no shot open; one with a shot open; one whose mirror period is too short. -/
def firingHeld : State := firing.withPta { firing.pta with held := some (shotOf [⟨502000, 900⟩]) }
def firingFault : State := firing.withAnu { firing.anu with previousIndex := some 1050001 }

theorem witness_attempt_ends_more : firingHeld.rgu.openShots = [] ∧ firingHeld.pta.held = some (shotOf [⟨502000, 900⟩]) ∧
    firingHeld.pwk.state = .line ∧ firingOne.rgu.openShots = [shot0] ∧ firingOne.pta.held = none ∧ shot0.line = attempt1.line ∧
    shot0.attempt = attempt1.attempt ∧ firingFault.anu.previousIndex = some 1050001 ∧
    firingFault.time - 1050001 < firingFault.cmu.settings.periodLow * 100 ∧ firingFault.cmu.device = .running ∧
    firingFault.rgu.openShots = [] ∧ firingFault.FreeReport 2 ∧ attempt1.fired = none ∧
    firingFault.cmu.settings.periodHigh * 100 < firingFault.time - 949999 := by
  unfold State.FreeReport; decide +kernel

theorem witness_line_ends (dirty : Option DirtyMark) : (ending dirty).powered = true ∧
    (ending dirty).pta.report = some ⟨1, 1, dirty, 5, false⟩ ∧
    (ending dirty).pwk.attempt = some { attempt1 with fired := some 7, ending := true } ∧ (ending dirty).pwk.state = .line ∧
    (ending dirty).pwk.segment = some ⟨0, 0, 11, 0, 0⟩ ∧ (ending dirty).pwk.record 0 = .segment seg ∧ seg.interval = 0 ∧
    0 + 1 < 11 ∧ (ending dirty).pwk.inPosition = false ∧ (ending dirty).FreeReport 2 ∧ { seg with retryLimit := 1 }.retryLimit ≤ 0 + 1 := by
  unfold State.FreeReport
  exact ⟨rfl, rfl, rfl, rfl, rfl, rfl, rfl, by decide, rfl, ⟨rfl, by show 4 ≤ 2048; decide, .inr (by show 4 < 1536; decide)⟩, by decide⟩

/-- The attempt ending with a photo due after its line: cameras 0 and 3 asked for, all present or none. -/
def endingPhoto (present : Bool) : State := { ending none with
  pwk := { (ending none).pwk with plan := plan1.set 0 (.segment { seg with interval := 1, mask := 9 }) }
  phc := { Phc.reset with cameras := .replicate 4 { workedCamera with present := present } } }

theorem witness_line_ends_photo : (endingPhoto true).pta.report = some ⟨1, 1, none, 5, false⟩ ∧
    (endingPhoto true).pwk.record 0 = .segment { seg with interval := 1, mask := 9 } ∧
    (endingPhoto true).pwk.segment = some ⟨0, 0, 11, 0, 0⟩ ∧ (0 + 1) % 1 = 0 ∧ (endingPhoto true).phc.sequence = .idle ∧
    (endingPhoto true).phc.Effective 9 9 ∧ (9 : CameraSet) ≠ 0 ∧ 0 < longest 9 (endingPhoto true).cmu.settings.settle ∧
    (endingPhoto true).FreeReport 2 ∧ (endingPhoto false).phc.Effective 9 0 ∧ (endingPhoto false).pwk.inPosition = false := by
  unfold State.FreeReport Phc.Effective; decide +kernel

theorem witness_attempts_abandoned : (0 + 1 < seg.retryLimit ∧ attempt1.attempt ≠ 65535) ∧
    (ending (some ⟨.missing, 3⟩)).FreeReport 1 ∧ firing.pwk.attemptLimit = some 2000000 ∧
    { firing with time := 1999999 }.time < 2000000 ∧ 2000000 ≤ firing.time ∧ attempt1.fired = none ∧ firing.FreeReport 1 := by
  unfold State.FreeReport; decide +kernel

/-- The attempt limit finds a shot held and another open. -/
def firingBoth : State := firingHeld.withRgu { firingHeld.rgu with openShots := [{ shot0 with tag := 1, index := 1 }] }

/-- With continuity off the held shot is a point whatever its neighbours. -/
def firingPoint : State := firingBoth.withCmu { firingBoth.cmu with settings := { settings5 with continuity := .off } }

theorem witness_abandon_orders : firingPoint.pwk.attemptLimit = some 2000000 ∧ 2000000 ≤ firingPoint.time ∧
    firingPoint.rgu.openShots = [{ shot0 with tag := 1, index := 1 }] ∧ firingPoint.pta.held = some (shotOf [⟨502000, 900⟩]) ∧
    firingPoint.rps.queue.length + 1 < 1984 ∧ firingPoint.FreeReport 2 ∧
    firingPoint.judgeShot none (shotOf [⟨502000, 900⟩]) (some (Shot.missed { shot0 with tag := 1, index := 1 })) =
      (firingPoint.judgeShot none (shotOf [⟨502000, 900⟩]) (some (Shot.missed { shot0 with tag := 1, index := 1 }))).withRps
        (firingPoint.rps.plus (.point ⟨1, 1, 0, 1999000, 262144, 0, false, false, true, [⟨502000, 900, false⟩], none⟩)) := by
  unfold State.FreeReport; decide +kernel

/-- An echo of 1,000 units lies at 23,421 range units; the limit is set above it. -/
def near : State := { firing with
  cmu := { firing.cmu with settings := { settings5 with proximityLimit := 23422 } }
  rgu := { firing.rgu with openShots := [shot0] } }

theorem witness_proximity : near.powered = true ∧ near.cmu.device = .running ∧ parseTransfer twoEchoes.bytes = some (twoEchoes, []) ∧ twoEchoes.count ≠ 7 ∧
    (twoEchoes.echoes.map (·.tof)).Pairwise (· < ·) ∧ near.rgu.openShots = [shot0] ∧ shot0.tag = twoEchoes.tag ∧
    near.rgu.record = some ⟨1, 1, true, false⟩ ∧ near.pwk.state = .line ∧ near.pwk.attempt = some attempt1 ∧
    near.emt.context = some ⟨1, 1, 70000, 900000, 1, 0, 0, false⟩ ∧ near.pta.context = some ⟨1, 1, .all, none, 0, false⟩ ∧
    near.pta.held = none ∧
    ((twoEchoes.echoes.take 4).filterMap near.rgu.rangeOf).find? (fun x => decide (x < near.cmu.settings.proximityLimit)) =
      some 23421 ∧ near.FreeReport 2 := by
  unfold State.FreeReport; decide +kernel

theorem witness_head : waiting.pwk.state ≠ .slewing ∧ slewing.powered = true ∧ slewing.pwk.state = .slewing ∧
    slewing.pwk.record slewing.pwk.recordIndex = .segment seg ∧ slewing.pwk.slew.faultTimer = some 1002000000 ∧
    slewing.pwk.slew.target = some 0 ∧ 1002000000 ≤ { slewing with time := 1002000000 }.time ∧ slewing.FreeReport 1 := by
  unfold State.FreeReport; decide +kernel

/-- The walker slews toward a PHOTO record at index 0, before a SEGMENT: cameras 0 and 3 asked for, all present or none. -/
def slewingPhoto (present : Bool) : State := { slewing with
  pwk := { slewing.pwk with plan := (plan1.set 0 (.photo 500 9)).set 1 (.segment seg), segment := none, headCommand := some 500 }
  phc := { Phc.reset with cameras := .replicate 4 { workedCamera with present := present } } }

theorem witness_photo_arrives : (slewingPhoto true).pwk.state = .slewing ∧
    (slewingPhoto true).pwk.record (slewingPhoto true).pwk.recordIndex = .photo 500 9 ∧
    (slewingPhoto true).phc.sequence = .idle ∧ (slewingPhoto true).phc.Effective 9 9 ∧
    0 < longest 9 (slewingPhoto true).cmu.settings.settle ∧ (slewingPhoto false).phc.Effective 9 0 ∧
    (slewingPhoto false).pwk.saved = none ∧
    (slewingPhoto false).pwk.record ((slewingPhoto false).pwk.recordIndex + 1) = .segment seg ∧
    (slewingPhoto false).pwk.headCommand ≠ some (seg.azimuth 0) := by
  unfold Phc.Effective; decide +kernel

theorem witness_photo_exposes : (photo .settle 2000000 true).powered = true ∧ (photo .settle 2000000 true).phc.timer = some 2000000 ∧
    2000000 ≤ (photo .settle 2000000 true).time ∧ (photo .settle 2000000 true).phc.sequence = .settle ∧
    (photo .settle 2000000 true).pru.liveStations ≠ [] ∧ (photo .settle 2000000 false).pru.liveStations = [] ∧
    (photo .grantWait 2000000 true).phc.sequence = .grantWait ∧ (photo .expose 2000000 true).phc.sequence = .expose ∧
    (photo .expose 2000000 true).phc.exposure.startTime = some 1000000 ∧
    (photo .expose 2000000 true).phc.exposure.cameras[3].trigger = true ∧
    1000000 + 100 * (photo .expose 2000000 true).phc.exposure.cameras[3].length ≤ (photo .expose 2000000 true).time ∧
    { photo .expose 2000000 true with time := 1999999 }.time <
      1000000 + 100 * (photo .expose 2000000 true).phc.exposure.cameras[3].length := by decide +kernel

/-- A QUIET of an earlier photo still in sending at the entry to GRANT_WAIT is no request of this one (R83). -/
theorem test_quiet_forgotten : (after .settleEnd ((photo .settle 2000000 true).withSlc { waiting.slc with
    tx := .send, frame := some ⟨.quiet, [], 2010000, true, false⟩ })).slc.frame = some ⟨.quiet, [], 2010000, false, false⟩ := by
  decide +kernel

theorem witness_photo_released : (photo .expose 2000000 false).powered = true ∧ (photo .expose 2000000 false).phc.sequence = .expose ∧
    (photo .expose 2000000 false).phc.ownQuiet = true ∧ (photo .expose 2000000 false).phc.timer = some 2000000 ∧
    2000000 ≤ (photo .expose 2000000 false).time ∧ (photo .expose 2000000 false).phc.outgoing = [] ∧
    (photo .expose 2000000 false).phc.nextNumber = some 1 ∧ 1 + 4 ≤ 4294967295 ∧
    (photo .expose 2000000 false).phc.catalogue.length ≤ 64 ∧ (photo .expose 2000000 false).FreeReport 4 ∧
    (photo .expose 2000000 false).pwk.state = .photo ∧ (photo .expose 2000000 false).pwk.saved = some ⟨0, 0, 11, 0, 0⟩ ∧
    (photo .expose 2000000 false).pwk.record 0 = .segment seg ∧ 0 + 1 < 11 ∧ (photo .expose 2000000 false).pwk.inPosition = false := by
  unfold State.FreeReport; decide +kernel

/-- The photo of a PHOTO record at index 0, a SEGMENT behind it. -/
def photoRecord : State := (photo .expose 2000000 false).withPwk { (photo .expose 2000000 false).pwk with
  plan := (plan1.set 0 (.photo 500 9)).set 1 (.segment seg), saved := none, segment := none, headCommand := some 500 }

theorem witness_photo_record_released : photoRecord.pwk.state = .photo ∧ photoRecord.pwk.saved = none ∧
    photoRecord.pwk.record (photoRecord.pwk.recordIndex + 1) = .segment seg ∧ photoRecord.pwk.inPosition = false ∧
    (after .photoRelease photoRecord).pwk.segment = some ⟨1, 0, seg.lines, 0, 0⟩ := by decide +kernel

theorem witness_carrier : pendingBeacon.powered = true ∧ pendingBeacon.slc.carrierSense = false ∧ jammed.slc.carrierSense = true ∧
    waiting.slc.tx ≠ .wait ∧ pendingBeacon.slc.tx = .wait ∧ pendingBeacon.slc.generator = some 15077 ∧
    jammed.slc.assembler = .hunt false ∧ assembling.slc.assembler = .header [15, 2] := by decide +kernel

theorem witness_frame_out : pendingBeacon.powered = true ∧ pendingBeacon.slc.tx = .wait ∧ pendingBeacon.slc.access = some 2000000 ∧
    2000000 ≤ pendingBeacon.time ∧ pendingBeacon.slc.anyPending = true := by decide +kernel

/-- A frame whose last stop bit is sent now. -/
def sending (f : TxFrame) (pending rejoin : Bool) (m : Membership) : State := waiting.withSlc { waiting.slc with
  tx := .send, frame := some f, pendingHold := pending, rejoin := rejoin, membership := m }

theorem witness_sending (f : TxFrame) (pending rejoin : Bool) (m : Membership) :
    (sending f pending rejoin m).powered = true ∧ (sending f pending rejoin m).slc.tx = .send ∧
    (sending f pending rejoin m).slc.frame = some f ∧ (sending f pending rejoin m).slc.generator = some 1 ∧
    (sending f pending rejoin m).slc.anyPending = pending ∧ (sending f pending rejoin m).slc.carrierSense = false ∧
    (sending f pending rejoin m).slc.rejoin = rejoin ∧ (sending f pending rejoin m).slc.membership = m ∧
    (sending f pending rejoin m).time = 2000000 := by cases pending <;> exact ⟨rfl, rfl, rfl, rfl, rfl, rfl, rfl, rfl, rfl⟩

theorem witness_line_timers : jammed.powered = true ∧ 2000000 ≤ jammed.time ∧ jammed.slc.tx = .wait ∧
    jammed.slc.jam = some 2000000 ∧ jammed.slc.jamReported = false ∧ jammed.FreeReport 1 ∧
    { waiting.slc with beaconTimer := some 2000000 }.beaconTimer = some 2000000 ∧ waiting.slc.membership = .live ∧
    { waiting.slc with leaveTimer := some 2000000, tx := .send }.tx = .send ∧
    { waiting.slc with leaveTimer := some 2000000, tx := .wait }.rejoin = false := by
  unfold State.FreeReport; decide +kernel

/-- A START waits for the end of a leave whose timer expires. -/
def rejoining : State := { waiting with
  slc := { waiting.slc with membership := .leaving, tx := .wait, leaveTimer := some 2000000, pendingBeacon := true, rejoin := true } }

theorem witness_rejoin : rejoining.powered = true ∧ rejoining.slc.leaveTimer = some 2000000 ∧ rejoining.slc.tx = .wait ∧
    rejoining.slc.rejoin = true ∧ (after .leaveTimerExpiry rejoining).slc.membership = .joining := by decide +kernel

theorem witness_assembler : ready.slc.listening = false ∧ waiting.slc.listening = true ∧ waiting.slc.assembler = .hunt false ∧
    { waiting.slc with assembler := .hunt true }.listening = true ∧ 17 < (18 : Byte).toNat ∧
    assembling.slc.assembler = .header [15, 2] ∧ assembling.slc.byteGap = some 2000000 ∧ 2000000 ≤ assembling.time := by
  decide +kernel

theorem witness_discards : waiting.slc.assembler = .hunt false ∧ waiting.slc.byteGap = none ∧
    17 < (List.replicate 18 (0 : Byte)).length ∧ (List.replicate 17 (0 : Byte)).length ≤ 17 ∧
    crc16 [15, 2, 0] ≠ 0 ∧ 15 < (16 : Byte).toNat ∧ 3 < (4 : Byte).toNat ∧ ([2] : List Byte) ≠ [0] ∧ ([2] : List Byte) ≠ [1] := by
  decide +kernel

/-- BEACON payloads out of form: too short, a count without its entry, an unknown membership, a grant of 0, of 16, and one
repeated. -/
theorem witness_malformed_beacons : ([2, 0] : List Byte).length < 3 ∧ ([2, 0, 1] : List Byte).length ≠ 3 + 1 ∧
    ¬ (1 ≤ (([0, 0, 0] : List Byte).getD 0 0).toNat) ∧ (∃ g ∈ ([2, 0, 1, 0] : List Byte).drop 3, g = 0) ∧
    (∃ g ∈ ([2, 0, 1, 16] : List Byte).drop 3, 15 < g.toNat) ∧ ¬ (([2, 0, 2, 7, 7] : List Byte).drop 3).Nodup ∧
    (after (.siteFrameReceived 15 1 [2, 0, 2, 7, 7] (crc16 [15, 1, 5, 2, 0, 2, 7, 7])) waiting).slc.counters.form = 1 := by
  decide +kernel

theorem witness_quiet : (withPeer peer1 waiting).slc.listening = true ∧ 1 ≤ 15 ∧ 65535 < 65536 ∧
    (withPeer peer1 waiting).cmu.settings.station ≠ some 15 ∧ (withPeer peer1 waiting).pru.peer 15 = some peer1 ∧
    (withPeer peer1 waiting).FreeReport 1 ∧ peer1.window = none ∧ { peer1 with window := some 3000000 }.window.isSome = true := by
  unfold State.FreeReport; decide +kernel

theorem witness_peer_joins : waiting.pru.peer 15 = none ∧ waiting.FreeReport 2 ∧ waiting.cmu.settings.station ≠ some 15 ∧
    (withPeer peer1 waiting).pru.peer 15 = some peer1 ∧ (withPeer peer1 waiting).FreeReport 2 := by
  unfold State.FreeReport; decide +kernel

/-- A photo in GRANT_WAIT that expects the peers 14 and 15, of which these have granted. -/
def granting (sent : Bool) (granted : List Nat) : State := { photo .grantWait 27000000 true with
  phc := { (photo .grantWait 27000000 true).phc with requestSent := sent, expected := [14, 15], granted := granted } }

theorem witness_beacon : waiting.cmu.settings.station = some 5 ∧ 5 ≠ 15 ∧ (∀ g ∈ [5, 14], 1 ≤ g ∧ g ≤ 15) ∧ [5, 14].Nodup ∧
    [5, 14].length ≤ 14 ∧ waiting.FreeReport 3 ∧ waiting.pru.peer 15 = none ∧ waiting.phc.sequence = .idle ∧
    (photo .settle 2000000 true).phc.sequence = .settle ∧ (photo .expose 2000000 true).phc.sequence = .expose ∧
    (photo .expose 2000000 true).pru.peer 15 = some peer1 ∧ [5, 14].contains 5 = true ∧ [14].contains 5 = false ∧
    (granting false []).phc.sequence = .grantWait ∧ (granting false []).phc.requestSent = false ∧
    (∃ k ∈ (granting false []).phc.expected, k ∉ (granting false []).phc.granted) ∧
    (granting true []).phc.requestSent = true ∧ 15 ∈ (granting true []).phc.expected ∧
    (∃ k ∈ (granting true []).phc.expected, k ≠ 15 ∧ k ∉ (granting true []).phc.granted) ∧
    (∀ k ∈ (granting true [14]).phc.expected, k ≠ 15 → k ∈ (granting true [14]).phc.granted) ∧
    (granting true [14]).FreeReport 3 ∧ (granting true [14]).pru.peer 15 = some peer1 := by
  unfold State.FreeReport; decide +kernel

theorem test_beacon : ((after (.siteFrameReceived 15 1 [2, 3, 1, 5] (crc16 [15, 1, 4, 2, 3, 1, 5])) (granting true [14])).phc.sequence) =
      .expose ∧
    ((after (.siteFrameReceived 15 1 [2, 3, 1, 5] (crc16 [15, 1, 4, 2, 3, 1, 5])) (granting true [14])).pru.peer 15).map
      (fun p => (p.firing, p.hold, p.grantedToMe)) = some (true, true, true) := by decide +kernel

theorem witness_peer_timers : (withPeer peer1 waiting).time < peer1.age ∧ { peer1 with age := 2000000 }.age ≤ waiting.time ∧
    (withPeer peer1 waiting).phc.sequence ≠ .grantWait ∧ (withPeer peer1 waiting).FreeReport 3 ∧
    (withPeer peer1 waiting).pru.peer 15 = some peer1 ∧ peer1.window = none ∧ { waiting with time := 1999999 }.time < 2000000 := by
  unfold State.FreeReport; decide +kernel

theorem witness_join_window : joining.powered = true ∧ joining.slc.membership = .joining ∧ joining.pru.joinTimer = some 2000000 ∧
    2000000 ≤ joining.time ∧ joining.FreeReport 1 ∧ joining.pwk.armed = true ∧ joining.pwk.state = .idle ∧
    joining.pwk.outgoing = none ∧ joining.pwk.record joining.pwk.recordIndex = .segment seg ∧ joining.pwk.inPosition = false := by
  unfold State.FreeReport; decide +kernel

/-- The same with a REPEAT at the START index 1, back to the SEGMENT at 0, its counter as given, and a SEGMENT at 2. -/
def joiningRepeat (counter : Option Nat) : State := joining.withPwk { joining.pwk with
  plan := (plan1.set 1 (.repeatFrom 0 3)).set 2 (.segment { seg with azStart := 5000 })
  recordIndex := 1
  counters := joining.pwk.counters.set 1 counter }

/-- The same with END there. -/
def joiningEnd : State := joining.withPwk { joining.pwk with recordIndex := 1 }

theorem witness_join_repeat : (joiningRepeat none).pwk.record (joiningRepeat none).pwk.recordIndex = .repeatFrom 0 3 ∧
    (joiningRepeat none).pwk.counters[1]? = some none ∧ (joiningRepeat (some 0)).pwk.counters[1]? = some (some 0) ∧
    (joiningRepeat (some 1)).pwk.counters[1]? = some (some 1) ∧ (joiningRepeat none).pwk.record 0 = .segment seg ∧
    (joiningRepeat (some 0)).pwk.record 2 = .segment { seg with azStart := 5000 } ∧
    (joiningRepeat none).pwk.inPosition = false ∧ joiningEnd.pwk.record joiningEnd.pwk.recordIndex = .planEnd ∧
    joiningEnd.FreeReport 2 ∧ joiningEnd.emt.emit = none ∧ joining.withPwk { joining.pwk with armed := false } ≠ joining := by
  unfold State.FreeReport; decide +kernel

/-- A count of 3 makes four passes (R100): the REPEAT loads 2, 1, 0 and is passed. -/
theorem test_join_repeat : (after .joinTimerExpiry (joiningRepeat none)).pwk.counters[1] = some 2 ∧
    (after .joinTimerExpiry (joiningRepeat (some 0))).pwk.headCommand = some 5000 ∧
    (after .joinTimerExpiry joiningEnd).rps.queue.getLast? = some (.event ⟨.planDone 0, 1, 2000000⟩) := by decide +kernel

theorem witness_duplicate : waiting.powered = true ∧ waiting.slc.listening = true ∧ waiting.slc.assembler = .hunt false ∧
    waiting.slc.byteGap = none ∧ 1 ≤ 5 ∧ 5 ≤ 15 ∧ waiting.cmu.settings.station = some 5 ∧ waiting.FreeReport 6 ∧
    waiting.pwk.attempt = none ∧ waiting.emt.emit = none ∧ waiting.phc.sequence = .idle ∧ waiting.slc.membership = .live := by
  unfold State.FreeReport; decide +kernel

/-- Frames of the own number 5 that lose the claim: HOLD OFF, QUIET, a LIVE BEACON with grants, and, while JOINING, a JOINING
one. -/
theorem witness_duplicate_frames : ([0] : List Byte) = [0] ∧ ([0, 0] : List Byte).length = 2 ∧
    ((∀ g ∈ [1, 15], 1 ≤ g ∧ g ≤ 15) ∧ [1, 15].Nodup ∧ [1, 15].length ≤ 14) ∧ joining.slc.membership = .joining ∧
    joining.slc.listening = true ∧ joining.slc.assembler = .hunt false ∧ joining.slc.byteGap = none ∧ joining.FreeReport 6 ∧
    joining.phc.Abortable 1 ∧ joining.StopRecord .duplicate [] := by
  refine ⟨rfl, rfl, by decide, rfl, rfl, rfl, rfl, ?_, ?_, rfl⟩
  · unfold State.FreeReport; decide +kernel
  · unfold Phc.Abortable; decide +kernel

theorem test_duplicate_frames :
    (after (.siteFrameReceived 5 2 [0, 0] (crc16 [5, 2, 2, 0, 0])) waiting).rps.queue.getLast? =
      some (.event ⟨.duplicateStation .live .quiet .live, 1, 2000000⟩) ∧
    (after (.siteFrameReceived 5 1 [1, 3, 1, 15] (crc16 [5, 1, 4, 1, 3, 1, 15])) joining).rps.queue.getLast? =
      some (.event ⟨.duplicateStation .joining .beacon .joining, 1, 2000000⟩) ∧
    after (.siteFrameReceived 5 1 [1, 3, 1, 15] (crc16 [5, 1, 4, 1, 3, 1, 15])) waiting = waiting ∧
    after (.siteFrameReceived 5 1 [3, 0, 0] (crc16 [5, 1, 3, 3, 0, 0])) joining = joining := by decide +kernel

/-- An end of run finds no attempt, an attempt open or one ending, and a photo in each of its states. -/
theorem witness_run_ends : waiting.StopRecord .duplicate [] ∧
    firing.StopRecord .duplicate [.lineAbandoned 1 1 0 .duplicate 0] ∧
    (ending none).StopRecord .stop [.lineAbandoned 1 1 0 .stop 7] ∧ waiting.phc.Abortable 1 ∧ firing.phc.Abortable 1 ∧
    (photo .settle 2000000 true).phc.Abortable 1 ∧ (photo .grantWait 2000000 true).phc.Abortable 1 ∧
    (photo .expose 2000000 true).phc.Abortable 1 ∧ (photo .expose 2000000 true).FreeReport 6 ∧ firing.FreeReport 6 ∧
    (ending none).FreeReport 6 := by
  refine ⟨rfl, ⟨0, rfl, nofun, fun _ => ⟨rfl, _, rfl, rfl⟩⟩, ⟨7, rfl, fun _ => rfl, nofun⟩, ?_⟩
  unfold State.FreeReport Phc.Abortable; decide +kernel

/-- STOP aborts a photo 1 µs after the triggers rose: the length recorded is the time each has been high (R90). -/
theorem test_stop_aborts : (after .stop { photo .expose 2000000 false with time := 1000100 }).rps.queue.length = 5 ∧
    ((after .stop { photo .expose 2000000 false with time := 1000100 }).phc.catalogue.map fun p => (p.camera, p.length, p.aborted)) =
      [(0, 1, true), (3, 1, true)] := by decide +kernel

/-- A queue of n PLAN_DONE events, read to its last word, in THINNING, with a reply that waits. -/
def queued (n : Nat) : State := { ready with
  rps := ⟨.replicate n (.event ⟨.planDone 0, 1, 0⟩), true, [], 100⟩
  cmu := { ready.cmu with ready := false, reply := some ⟨12, .ok, 0, .nothing⟩ } }

theorem witness_report_word : (queued 0).powered = true ∧ (queued 0).rps.queue = [] ∧
    (queued 1).rps.queue = .event ⟨.planDone 0, 1, 0⟩ :: [] ∧ (Record.event ⟨.planDone 0, 1, 0⟩).wordCount ≤ (queued 1).rps.port + 1 ∧
    0 + 1 < (Record.event ⟨.planDone 0, 1, 0⟩).wordCount ∧
    (queued 1025).rps.queue.tail.length = (queued 1025).cmu.settings.resumeThreshold ∧
    (queued 1025).cmu.settings.resumeThreshold + 1 < (queued 1025).cmu.settings.thinThreshold ∧
    (queued 2048).rps.queue.tail.length + 1 = 2048 ∧ (queued 2048).rps.thinning = true ∧
    (queued 2048).cmu.reply = some ⟨12, .ok, 0, .nothing⟩ := by decide +kernel

/-- A full queue with two pending events, for which nothing, a record of the walker or two photographs wait. -/
def queuedFull (walker : Option Record) (photos : List Photo) : State := { queued 2048 with
  time := 3150000
  rps := { (queued 2048).rps with events := [⟨.headFault 7 3, 255, 5⟩, ⟨.echoSlip .order 2, 1, 6⟩] }
  cmu := { ready.cmu with device := .running }
  anu := waiting.anu
  pwk := { ready.pwk with outgoing := walker }
  phc := { ready.phc with outgoing := photos } }

/-- A photograph that waits. -/
def photo7 : Photo := ⟨7, 0, 0, 0, 0, 0, [], false, false⟩

theorem witness_report_waiters : (queuedFull none []).rps.queue.tail.length + 1 = 2048 ∧
    (queuedFull none []).cmu.settings.resumeThreshold < 2047 ∧ (queuedFull none []).cmu.reply = none ∧
    (queuedFull (some (.lineBegin 1 1 0 0)) []).pwk.outgoing = some (.lineBegin 1 1 0 0) ∧
    (queuedFull (some (.lineBegin 1 1 0 0)) []).pwk.deferred = none ∧
    (queuedFull none [photo7, photo7]).phc.outgoing = photo7 :: photo7 :: [] ∧ (queuedFull none []).pwk.outgoing = none ∧
    (queuedFull none []).rps.events = ⟨.headFault 7 3, 255, 5⟩ :: [⟨.echoSlip .order 2, 1, 6⟩] := by decide +kernel

/-- Raises that find the queue full: a kind held with a count of 255, a kind between the two held, one masked, and one that no
mask drops. -/
theorem witness_pending_events : (queuedFull none []).rps.queue.length = 2048 ∧ (Event.headFault 9 9).kind = 1 ∧
    (Event.mirrorFault .absent none).kind = 2 ∧
    ((queuedFull none []).rps.events.Pairwise fun x y => x.event.kind < y.event.kind) ∧
    (∀ x ∈ (queuedFull none []).rps.events, x.event.kind ≠ 2) ∧
    { settings5 with eventMask := 0xFFFFF }.eventMask.getLsbD 2 = true ∧ 2 ∉ [0, 1, 4, 19] ∧
    { settings5 with eventMask := 0xFFFFF }.eventMask.getLsbD 19 = true ∧ 19 ∈ [0, 1, 4, 19] := by decide +kernel

/-- An absent mirror pulse over a full queue waits between the two events held (R181, R183). -/
theorem test_pending_events : (after .absenceTimerExpiry (queuedFull none [])).rps.events.map (fun e => (e.event.kind, e.count)) =
    [(1, 255), (2, 1), (12, 1)] ∧ (after .absenceTimerExpiry (queuedFull none [])).rps.attn = true := by decide +kernel

/-- Three settings at an edge of their ranges. -/
def entries3 : List SettingEntry := [⟨1, 15⟩, ⟨2, 12⟩, ⟨12, 2⟩]

theorem witness_configure : ready.Takes (.configure entries3) ∧ entries3.length ≤ 255 ∧ ready.cmu.device ≠ .running ∧
    ready.slc.membership ≠ .leaving ∧ refusedSetting entries3 = none ∧ ready.FreeReport 1 ∧ ready.rps.thinning = false ∧
    ready.rps.queue.length + 1 < (configurationOf entries3).thinThreshold := by
  unfold State.FreeReport State.Takes; decide +kernel

/-- READY with n records queued, in THINNING or not. -/
def readyQueued (n : Nat) (thinning : Bool) : State := ready.withRps ⟨.replicate n (.event ⟨.planDone 0, 1, 0⟩), thinning, [], 0⟩

/-- The thin threshold at its least value, 256, and the resume threshold, by default 1,024, clamped below it to 255. -/
def entriesThin : List SettingEntry := [⟨1, 1⟩, ⟨27, 0⟩]

theorem witness_configure_thresholds : (readyQueued 256 false).Takes (.configure entriesThin) ∧
    refusedSetting entriesThin = none ∧ (configurationOf entriesThin).thinThreshold ≤ (readyQueued 256 false).rps.queue.length ∧
    (readyQueued 254 false).rps.queue.length + 1 < (configurationOf entriesThin).thinThreshold ∧
    (readyQueued 255 false).rps.queue.length + 1 = (configurationOf entriesThin).thinThreshold ∧
    (configurationOf entriesThin).resumeThreshold < (readyQueued 256 true).rps.queue.length ∧
    (readyQueued 253 true).rps.queue.length ≤ (configurationOf entriesThin).resumeThreshold ∧
    (readyQueued 253 true).rps.queue.length + 2 < (configurationOf entriesThin).thinThreshold ∧
    (readyQueued 253 true).rps.events = [] ∧ (readyQueued 2046 true).rps.queue.length + 2 ≤ 2048 := by
  unfold State.Takes; decide +kernel

theorem test_configure_thins : (after (.configure entriesThin) (readyQueued 256 false)).rps.thinning = true ∧
    (after (.configure entriesThin) (readyQueued 256 false)).rps.queue[256]? = some (.event ⟨.thinningOn 256, 1, 0⟩) ∧
    (after (.configure entriesThin) (readyQueued 253 true)).rps.thinning = false ∧
    (after (.configure entriesThin) (readyQueued 255 false)).rps.queue[256]? = some (.event ⟨.thinningOn 256, 1, 0⟩) := by
  decide +kernel

theorem witness_configure_refused : waiting.Takes (.configure entries3) ∧ waiting.cmu.device = .running ∧
    refusedSetting [⟨1, 16⟩] = some 1 ∧ ready.Takes (.configure [⟨1, 16⟩]) ∧
    { ready.slc with membership := .leaving }.membership = .leaving := by
  unfold State.Takes; decide +kernel

theorem witness_tables : ready.FreeReport 1 ∧ ready.Takes (.loadTable 0 (le 4 1700000 ++ le 2 65535)) ∧
    ([1, 1, 0, 0, 0, 0, 0x80] : List Byte).length = 1 + 4 + 2 ∧ field [1, 1, 0, 0, 0, 0, 0x80] 0 1 = 1 ∧
    field [1, 1, 0, 0, 0, 0, 0x80] 1 4 = 1 ∧ fieldInt [1, 1, 0, 0, 0, 0, 0x80] 5 2 = -32768 ∧
    field [1, 0, 0, 0, 0, 0, 0x80] 1 4 = 0 ∧ ready.Takes (.loadTable 2 [1, 0, 0, 0, 0, 0, 0x80]) ∧ ready.Takes (.loadTable 2 [1, 1, 0, 0, 0, 0, 0x80]) ∧
    ready.Takes (.readTable 7) ∧ (7 : Byte).toNat < 8 := by
  unfold State.FreeReport State.Takes; decide +kernel

/-- A camera at the edges of its ranges. -/
def cameraEdge : List Byte := writeFields cameraSpecs [1, 1048575, -262144, 262144, 1, 256, 16777216, 0, 8191, 8192, 1]

theorem witness_tables_all :
    ((walkContents (.replicate 16 (-2048))).length = 16 * 2 ∧
      ∀ j < 16, fieldInt (walkContents (.replicate 16 (-2048))) (2 * j) 2 = -2048) ∧
    fieldInt (walkContents (.replicate 16 (-2049))) 0 2 < -2048 ∧ ([0] : List Byte).length = 1 ∧ field [17] 0 1 = 17 ∧
    (cameraEdge.length = 1 + 3 + 3 + 3 + 3 + 4 + 4 + 2 + 2 + 2 + 2 ∧ field cameraEdge 0 1 = 1 ∧ field cameraEdge 1 3 = 1048575 ∧
      fieldInt cameraEdge 4 3 = -262144 ∧ field cameraEdge 7 3 = 262144 ∧ field cameraEdge 10 3 = 1 ∧
      field cameraEdge 13 4 = 256 ∧ field cameraEdge 17 4 = 16777216 ∧ field cameraEdge 21 2 = 0 ∧ field cameraEdge 23 2 = 8191 ∧
      field cameraEdge 25 2 = 8192 ∧ field cameraEdge 27 2 = 1) := by decide +kernel

/-- The first field out of range is named: the span of a second segment, and a camera's pitch. -/
theorem test_tables_refused :
    (after (.loadTable 3 ([2, 1, 0, 0, 0, 0, 0, 0, 0, 0, 0, 0, 0])) ready).rps.queue.getLast? =
      some (.reply ⟨2, .badValue, 5, .setting 4⟩) ∧
    (after (.loadTable 4 (cameraEdge.set 14 0)) ready).rps.queue.getLast? = some (.reply ⟨2, .badValue, 5, .setting 6⟩) := by
  decide +kernel

/-- What a table was loaded with reads back. -/
theorem test_tables_read_back : (after (.loadTable 2 [1, 1, 0, 0, 0, 0, 0x80]) ready).tableContents 2 = [1, 1, 0, 0, 0, 0, 0x80] ∧
    (after (.loadTable 7 cameraEdge) ready).tableContents 7 = cameraEdge := by decide +kernel

/-- Row 7 written whole. -/
def stored : State := after .writeCompletion { after (.calStore 7) ready with time := 400000 }

theorem witness_rows : ready.Takes (.calStore 7) ∧ ready.cst.write = none ∧ ready.FreeReport 2 ∧
    (after (.calStore 7) ready).cst.write.map (fun w => (w.row, w.expiry)) = some (7, 400000) ∧
    (after (.calStore 7) ready).FreeReport 1 ∧ ready.Takes (.calReload 7) ∧ ready.cst.rowStates[7] ≠ .writing ∧
    ready.cst.rows[7].passes 7 = false ∧ stored.cst.rows[7].passes 7 = true ∧ stored.Takes (.calReload 7) := by
  unfold State.FreeReport State.Takes; decide +kernel

theorem witness_plan : ready.FreeReport 1 ∧ ready.Takes (.planWrite 63 ([PlanRecord.segment seg].map (·.bytes))) ∧
    (63 : Byte).toNat + [PlanRecord.segment seg].length ≤ 64 ∧
    (seg.azStart < 2 ^ 20 ∧ seg.azEnd < 2 ^ 20 ∧ -524288 ≤ seg.step ∧ seg.step ≤ 524287 ∧ seg.mFrom < 2 ^ 20 ∧ seg.mTo < 2 ^ 20 ∧
      1 ≤ seg.divisor ∧ seg.divisor ≤ 16 ∧ seg.interval ≤ 1000 ∧ 1 ≤ seg.retryLimit ∧ seg.retryLimit ≤ 15) ∧
    ready.Takes (.planWrite 64 [PlanRecord.planEnd.bytes]) ∧ 64 < (64 : Byte).toNat + 1 ∧
    field (List.replicate 23 (0 : Byte)) 0 1 = 0 ∧ ready.Takes (.planRead 63 1) := by
  unfold State.FreeReport State.Takes; decide +kernel

/-- A shot divisor of 17, a retry limit of 0, a return mode of 5, an azimuth of 2^20 and a target of 64 are out of range. -/
def badRecords : List (List Byte) :=
  [((PlanRecord.segment seg).bytes).set 16 17, ((PlanRecord.segment seg).bytes).set 22 0,
   ((PlanRecord.segment seg).bytes).set 17 5, (PlanRecord.photo 1048576 9).bytes, (PlanRecord.repeatFrom 64 1).bytes]

theorem test_plan_refused : ∀ r ∈ badRecords, r.length = 23 ∧ ready.Takes (.planWrite 63 [r]) ∧
    (after (.planWrite 63 [r]) ready).rps.queue.getLast? = some (.reply ⟨6, .badValue, 6, .nothing⟩) := by
  unfold State.Takes; decide +kernel

/-- A REPEAT's count of 0 and target of 63 are stored. -/
theorem test_plan_edges : (after (.planWrite 0 [(PlanRecord.repeatFrom 63 0).bytes]) ready).pwk.record 0 = .repeatFrom 63 0 := by
  decide +kernel

/-- READY with the plan of one segment. -/
def planned : State := ready.withPwk { ready.pwk with plan := plan1 }

theorem witness_run_begins : planned.Takes (.start 0) ∧ planned.cmu.device = .ready ∧ (0 : Byte).toNat ≤ 63 ∧
    planned.pwk.validate planned.cmu.settings.blindHalfWidth 0 = none ∧ planned.slc.membership ≠ .leaving ∧
    planned.slc.tx = .idle ∧ planned.slc.anyPending = false ∧ planned.cmu.settings.station = some 5 ∧ planned.FreeReport 1 := by
  unfold State.FreeReport State.Takes; decide +kernel

theorem witness_run_stops : waiting.Takes .stop ∧ waiting.cmu.device = .running ∧ waiting.pwk.attempt = none ∧
    waiting.phc.sequence = .idle ∧ waiting.slc.membership = .live ∧ waiting.slc.tx = .idle ∧
    waiting.slc.anyPending = false ∧ waiting.slc.generator = some 1 ∧ waiting.rgu.openShots = [] ∧ waiting.FreeReport 6 ∧
    firing.Takes .stop ∧ rejoining.Takes .stop ∧ rejoining.slc.membership = .leaving ∧ rejoining.FreeReport 6 ∧
    rejoining.phc.Abortable 1 ∧ firing.rgu.openShots = [] ∧ (photo .expose 2000000 true).Takes .stop ∧
    (photo .expose 2000000 true).cmu.device = .running ∧ (photo .expose 2000000 true).slc.tx = .idle := by
  unfold State.FreeReport State.Takes Phc.Abortable; decide +kernel

/-- STOP with EMIT high, and STOP while its own START waits for an earlier leave (R33, R134). -/
theorem test_stop_more : (after .stop (waiting.withEmt { waiting.emt with emit := some 2000400 })).emt.emit = none ∧
    (after .stop (waiting.withEmt { waiting.emt with emit := some 2000400 })).slc = (after .stop waiting).slc ∧
    (after .stop rejoining).slc = { rejoining.slc with rejoin := false } := by decide +kernel

/-- Halted by a hit at 1,000,000: the hold minimum of 2 s passes at 201,000,000. -/
def halted (now : Nat) : State := { waiting with
  time := now, pwk := { waiting.pwk with state := .halted, ownHold := some 1000000 } }

theorem witness_pauses : waiting.cmu.device = .running ∧ waiting.FreeReport 1 ∧ waiting.Takes .pause ∧ waiting.Takes .continueRun ∧
    waiting.pwk.state = .lineWait ∧ { waiting.pwk with state := .paused }.deferred = none ∧ firing.pwk.state ≠ .lineWait ∧
    firing.pwk.state ≠ .paused ∧ (halted 200999999).time < 1000000 + 100000000 * settings5.holdMinimum ∧
    1000000 + 100000000 * settings5.holdMinimum ≤ (halted 201000000).time ∧ (halted 201000000).pwk.deferred = none ∧
    (halted 201000000).pwk.pausePending = false ∧ (halted 201000000).Takes .continueRun ∧ firing.pwk.state ≠ .halted ∧
    { firing.pwk with pausePending := true }.pausePending = true := by
  unfold State.FreeReport State.Takes; decide +kernel

theorem witness_read_back : ready.Takes .status ∧ ready.Takes .peers ∧ ready.Takes .photos ∧ ready.FreeReport 1 ∧
    { queued 2048 with cmu := ready.cmu }.Takes .status ∧ (queued 2048).rps.queue.length = 2048 := by
  unfold State.FreeReport State.Takes; decide +kernel

/-- One record below the thin threshold of 1,536. -/
theorem witness_read_thins : (readyQueued 1535 false).Takes .status ∧ (readyQueued 1535 false).rps.events = [] ∧
    (readyQueued 1535 false).rps.thinning = false ∧ (readyQueued 1535 false).rps.queue.length + 2 ≤ 2048 ∧
    (readyQueued 1535 false).rps.queue.length + 1 = (readyQueued 1535 false).cmu.settings.thinThreshold := by
  unfold State.Takes; decide +kernel

theorem test_status_thins : (after .status (readyQueued 1535 false)).rps.queue[1536]? = some (.event ⟨.thinningOn 1536, 1, 0⟩) := by
  decide +kernel

theorem witness_refusals : waiting.FreeReport 1 ∧ waiting.cmu.device = .running ∧
    waiting.Takes (.loadTable 0 RangeTable.default.contents) ∧ operandsFit (.loadTable 0 RangeTable.default.contents) = true ∧
    waiting.Takes (.planWrite 0 []) ∧ operandsFit (.planWrite 0 []) = true ∧ waiting.Takes (.start 0) ∧ ready.FreeReport 1 ∧
    ready.Takes .stop ∧ ready.Takes .pause ∧ ready.Takes .continueRun ∧ 7 < (8 : Byte).toNat ∧ ready.Takes (.loadTable 8 []) ∧
    ready.Takes (.calReload 8) ∧ (after (.calStore 7) ready).cst.rowStates[7] = .writing ∧ ready.Takes (.readTable 8) ∧
    ready.Takes (.calStore 8) ∧ (after (.calStore 7) ready).Takes (.calStore 7) ∧ (after (.calStore 7) ready).cst.write.isSome = true ∧
    ready.Takes (.planRead 0 0) ∧ 64 < (64 : Byte).toNat + (1 : Byte).toNat ∧ 63 < (64 : Byte).toNat ∧
    (ready.withPwk { ready.pwk with plan := (workedPlan 2).plan }).pwk.validate 65536 0 = some 2 := by
  unfold State.FreeReport State.Takes; decide +kernel

/-- Records one after another in a walk: the indexes at places k and k + 1. -/
theorem witness_validation :
    (∀ k i j, [0, 1, 2, 0, 1, 2, 3][k]? = some i → [0, 1, 2, 0, 1, 2, 3][k + 1]? = some j →
      i ≤ 63 ∧ match (workedPlan 0).record i with
        | .segment g => (g.step ≠ 0 ∧ 65536 < g.mFrom ∧ g.mFrom ≤ g.mTo ∧ g.mTo < 2 ^ 20 - 65536) ∧ j = i + 1
        | .photo _ _ => j = i + 1
        | .repeatFrom target count =>
          target < i ∧ 0 < count ∧ j = if i ∈ [0, 1, 2, 0, 1, 2, 3].take k then i + 1 else target
        | .planEnd => False) ∧
    (workedPlan 0).record 3 = .planEnd ∧ (workedPlan 2).record 2 = .repeatFrom 2 3 ∧
    (workedPlan 0).record 0 = .segment { seg with mFrom := 100000, mTo := 700000, step := 200 } := by
  have r0 : (workedPlan 0).record 0 = .segment { seg with mFrom := 100000, mTo := 700000, step := 200 } := by decide +kernel
  have r1 : (workedPlan 0).record 1 = .photo 0 0 := by decide +kernel
  have r2 : (workedPlan 0).record 2 = .repeatFrom 0 3 := by decide +kernel
  refine ⟨fun k i j h1 h2 => ?_, by decide +kernel, by decide +kernel, r0⟩
  have hk : k < 6 := by have := (List.getElem?_eq_some_iff.1 h2).1; simp at this; omega
  interval_cases k <;> (simp at h1 h2; subst h1 h2; simp only [r0, r1, r2]; decide)

/-- A plan with no END is walked past index 63, one with a step of 0 is refused at it. -/
theorem test_validation_faults :
    Pwk.validate { workedPlan 0 with plan := .replicate 64 (.photo 0 0) } 65536 5 = some 63 ∧
    Pwk.validate { workedPlan 0 with plan := plan1.set 0 (.segment { seg with step := 0 }) } 65536 0 = some 0 ∧
    Pwk.validate { workedPlan 0 with plan := plan1.set 1 (.repeatFrom 0 0) } 65536 0 = some 1 := by decide +kernel

theorem witness_faulty_frames : ([9, 0, 0, 0, 0] : List Byte).length = 5 + announcedLength [9, 0, 0, 0, 0] ∧
    field [9, 0, 0, 0, 0] 3 2 ≠ (crc16 [9, 0, 0]).toNat ∧ ready.takesFrame [9, 0, 0, 0, 0] = true ∧ ready.FreeReport 1 ∧
    (frameBytes 16 []).length = 5 + announcedLength (frameBytes 16 []) ∧ 15 < field (frameBytes 16 []) 0 1 ∧
    field (frameBytes 0 []) 0 1 = 0 ∧ (frameBytes 15 [0]).length = 5 + announcedLength (frameBytes 15 [0]) ∧
    field (frameBytes 15 [0]) 0 1 = 15 ∧ 5 < (frameBytes 15 [0]).length ∧ field (frameBytes 9 [0]) 0 1 = 9 ∧
    (queued 2048).cmu.receiver = none ∧ (queued 2048).cmu.ready = false ∧ cutFrame.cmu.receiver = some [9, 0, 0] ∧
    cutFrame.cmu.laneGap = some 0 ∧ 0 ≤ cutFrame.time ∧ cutFrame.FreeReport 1 := by
  unfold State.FreeReport; decide +kernel

/-- A frame whose check stands and whose payload does not fit its code, for each of the codes 1 to 8; for LOAD_TABLE an empty
payload, a code alone, and contents of another length than their table's. -/
theorem witness_unfit_frames :
    ∀ x ∈ [(1, []), (1, [1]), (2, []), (2, [0]), (2, [2, 1, 0]), (2, 7 :: List.replicate 30 (0 : Byte)), (3, []), (4, [0, 0]),
        (5, []), (6, [0]), (6, [0, 1]), (7, [0]), (8, [0, 0])],
      field (frameBytes x.1 x.2) 0 1 = x.1 ∧ (frameBytes x.1 x.2).length = 5 + x.2.length ∧
      announcedLength (frameBytes x.1 x.2) = x.2.length ∧
      field (frameBytes x.1 x.2) (x.2.length + 3) 2 = (crc16 ((frameBytes x.1 x.2).take (x.2.length + 3))).toNat ∧
      ready.takesFrame (frameBytes x.1 x.2) = true := by decide +kernel

theorem test_unfit_frames : (after (.badFrame (frameBytes 6 [0, 1])) ready).rps.queue.getLast? =
      some (.reply ⟨6, .badValue, 4, .nothing⟩) ∧
    (after (.badFrame (frameBytes 2 [0])) ready).rps.queue.getLast? = some (.reply ⟨2, .badValue, 4, .nothing⟩) := by
  decide +kernel

theorem witness_lane_bytes : ready.powered = true ∧ ready.cmu.receiver = none ∧ ready.cmu.ready = true ∧
    (Instr.planWrite 0 [PlanRecord.planEnd.bytes]).wellFormed = true ∧ 1 ≤ commandCode (.configure []) ∧
    commandCode .photos ≤ 14 ∧ cutFrame.cmu.receiver = some [9, 0, 0] ∧ ([9, 0, 0] : List Byte).length < 4 := by decide +kernel

theorem witness_site_bytes : waiting.powered = true ∧ waiting.slc.listening = true ∧ waiting.slc.assembler = .hunt false ∧
    (List.replicate 17 (0 : Byte)).length ≤ 17 := by decide +kernel

theorem witness_frame_round_trip : (Instr.reset lowLevels).wellFormed = true ∧ 1 ≤ commandCode (.reset lowLevels) ∧
    ∀ l, Instr.stop ≠ .reset l := ⟨by decide +kernel, by decide, fun _ => nofun⟩

theorem witness_report_bounds : (queued 2).ReportSound ∧ step (queued 2) = .next ((queued 2).withTime 1) := by
  refine ⟨⟨⟨by decide +kernel, by decide +kernel, by unfold eventsInForm; decide +kernel⟩, fun r h => by cases h⟩, rfl⟩

/-- Each bound at its limit: local time held, two shots open, 64 entries, and a window 500 ms ahead of an age 300 ms ahead. -/
theorem witness_bounds_kept : State.TimeSound { ready with time := 2 ^ 48 - 1 } ∧
    step { ready with time := 2 ^ 48 - 1 } = .next { ready with time := 2 ^ 48 - 1 } ∧ firingTwo.rgu.Sound ∧
    step (firingTwo.withPending []) = .next (firingTwo.withTime 2000001) ∧
    Phc.Sound { Phc.reset with catalogue := .replicate 64 photo7 } ∧
    Peer.Bounded 2000000 { peer1 with age := 32000000, window := some 52000000 } := by
  refine ⟨?_, rfl, ?_, rfl, ?_, ?_⟩
  · unfold State.TimeSound; decide +kernel
  · unfold Rgu.Sound; decide +kernel
  · unfold Phc.Sound; decide +kernel
  · exact ⟨fun t h => by cases h; decide +kernel, by decide +kernel⟩

end Sys2Proof.Tests
end

/-! The angle arithmetic of chapter 1: the signed wrapped difference (R13) and the view direction (R11). -/

namespace Sys2Proof.Proofs.Angle

open Sys2Proof.Machine

/-! ## The signed wrapped difference -/

/-- The wrapped difference is the one value in its range that differs from x − y by whole revolutions. -/
theorem wrapDiff_eq_iff {x y : Nat} {d : Int} :
    wrapDiff x y = d ↔ (-524288 ≤ d ∧ d ≤ 524287) ∧ ∃ k : Int, d = x - y + k * 2 ^ 20 := by
  unfold wrapDiff
  constructor
  · rintro rfl
    exact ⟨by omega, -(((x : Int) - y + 524288) / 1048576), by omega⟩
  · rintro ⟨hrange, k, hk⟩
    omega

theorem wrapDiff_range (x y : Nat) : -524288 ≤ wrapDiff x y ∧ wrapDiff x y ≤ 524287 := (wrapDiff_eq_iff.1 rfl).1

theorem wrapDiff_eq_add_revolutions (x y : Nat) : ∃ k : Int, wrapDiff x y = x - y + k * 2 ^ 20 := (wrapDiff_eq_iff.1 rfl).2

/-- A way round within the range is the wrapped difference itself; one outside it is half a revolution or longer. -/
theorem wrapDiff_shortest (x y : Nat) (k : Int) : (wrapDiff x y).natAbs ≤ ((x : Int) - y + k * 2 ^ 20).natAbs := by
  by_cases hrange : -524288 ≤ (x : Int) - y + k * 2 ^ 20 ∧ (x : Int) - y + k * 2 ^ 20 ≤ 524287
  · rw [wrapDiff_eq_iff.2 ⟨hrange, k, rfl⟩]
  · have := wrapDiff_range x y
    omega

/-- Of the two ways of half a revolution, the backward one is in the range. -/
theorem wrapDiff_of_opposite {x y : Nat} {k : Int} (h : (x : Int) - y = 524288 + k * 2 ^ 20) : wrapDiff x y = -524288 :=
  wrapDiff_eq_iff.2 ⟨by decide, -(k + 1), by omega⟩

/-- Settles O11, by the characterisation of the wrapped difference `wrapDiff_eq_iff`. -/
theorem wrappedDifference : Obligations.WrappedDifference := fun x y =>
  ⟨rfl, (wrapDiff_range x y).1, (wrapDiff_range x y).2, wrapDiff_eq_add_revolutions x y, wrapDiff_shortest x y,
    fun ⟨_, h⟩ => wrapDiff_of_opposite h⟩

/-! ## The view direction -/

theorem viewDirection_front {m : Nat} (a : Nat) (h : m ≤ 524288) : viewDirection a m = ⟨a, (m : Int) - 262144⟩ := if_pos h

theorem viewDirection_back {m : Nat} (a : Nat) (h : 524288 < m) :
    viewDirection a m = ⟨(a + 524288) % 2 ^ 20, 786432 - (m : Int)⟩ := if_neg (Nat.not_le.2 h)

theorem viewDirection_azimuth_lt {a : Nat} (m : Nat) (ha : a < 2 ^ 20) : (viewDirection a m).azimuth < 2 ^ 20 := by
  rcases Nat.lt_or_ge 524288 m with back | front
  · rw [viewDirection_back a back]
    exact Nat.mod_lt _ (by decide)
  · rwa [viewDirection_front a front]

/-- The front half climbs from the lower bound to the upper, and the back half descends from it. -/
theorem viewDirection_elevation_range {m : Nat} (a : Nat) (hm : m < 2 ^ 20) :
    -262144 ≤ (viewDirection a m).elevation ∧ (viewDirection a m).elevation ≤ 262144 := by
  rcases Nat.lt_or_ge 524288 m with back | front
  · simp only [viewDirection_back a back]
    omega
  · simp only [viewDirection_front a front]
    omega

/-- Settles O12, by the two halves of the mirror's turn. -/
theorem viewDirectionComputed : Obligations.ViewDirectionComputed := fun a m ha hm =>
  ⟨viewDirection_front a, viewDirection_back a, viewDirection_azimuth_lt m ha, viewDirection_elevation_range a hm⟩

end Sys2Proof.Proofs.Angle

/-! The dither generator and the intervals between instants, of chapter 2 (R22). -/

namespace Sys2Proof.Proofs.Dither

open Sys2Proof.Machine

/-- The generator value, a fraction of 65536, picks one of the 2D + 1 dithers, numbered from 0. -/
theorem ditherIndex_le {x : Nat} (halfRange : Nat) (hx : x < 65536) : x * (2 * halfRange + 1) / 65536 ≤ 2 * halfRange :=
  Nat.le_of_lt_succ (Nat.div_lt_of_lt_mul (Nat.mul_lt_mul_of_pos_right hx (Nat.succ_pos _)))

theorem ditherOf_range {x : Nat} (halfRange : Nat) (hx : x < 65536) :
    -(halfRange : Int) ≤ ditherOf halfRange x ∧ ditherOf halfRange x ≤ halfRange := by
  have := ditherIndex_le halfRange hx
  unfold ditherOf
  omega

theorem ditherOf_zero {x : Nat} (hx : x < 65536) : ditherOf 0 x = 0 :=
  Int.le_antisymm (ditherOf_range 0 hx).2 (ditherOf_range 0 hx).1

/-- A half range up to the base period keeps P + d from being cut off at 0. -/
theorem intervalOf_eq_add {c : Settings} {x : Nat} (hx : x < 65536) (hD : c.dither ≤ c.basePeriod) :
    (intervalOf c x : Int) = c.basePeriod + ditherOf c.dither x := by
  have := ditherOf_range c.dither hx
  exact Int.toNat_of_nonneg (by omega)

theorem intervalOf_of_no_dither {c : Settings} {x : Nat} (hx : x < 65536) (hD : c.dither = 0) :
    intervalOf c x = c.basePeriod := by
  have h := intervalOf_eq_add hx (hD ▸ Nat.zero_le c.basePeriod)
  rw [hD, ditherOf_zero hx] at h
  omega

theorem intervalOf_range {c : Settings} {x : Nat} (hx : x < 65536) (hD : c.dither ≤ c.basePeriod) :
    c.basePeriod - c.dither ≤ intervalOf c x ∧ intervalOf c x ≤ c.basePeriod + c.dither := by
  have := intervalOf_eq_add hx hD
  have := ditherOf_range c.dither hx
  omega

/-- Settles O13, by the range of the dither `ditherOf_range` and the interval as an exact sum `intervalOf_eq_add`. -/
theorem ditherBounds : Obligations.DitherBounds := by
  refine ⟨fun x => rfl, fun c x hx => ⟨rfl, (ditherOf_range c.dither hx).1, (ditherOf_range c.dither hx).2,
    fun hD => ⟨hD ▸ ditherOf_zero hx, intervalOf_of_no_dither hx hD⟩, fun hD => ?_⟩⟩
  have hDP : c.dither ≤ c.basePeriod := hD.trans (Nat.div_le_self _ _)
  obtain ⟨hlow, hhigh⟩ := intervalOf_range hx hDP
  have hshortest : c.basePeriod - c.basePeriod / 8 ≤ intervalOf c x := (Nat.sub_le_sub_left hD _).trans hlow
  exact ⟨intervalOf_eq_add hx hDP, hlow, hhigh, hshortest, fun hP => by omega⟩

end Sys2Proof.Proofs.Dither

/-! The walk of an echo, of chapter 3 (R49): interpolation between two neighbouring entries of the walk table. -/

namespace Sys2Proof.Proofs.Walk

open Sys2Proof.Machine

theorem walkOf_last (w : Vector Int 16) {a : Nat} (ha : a / 256 = 15) : walkOf w a = w[15] := by
  simp [walkOf, ha]

theorem walkOf_interpolated (w : Vector Int 16) {a j : Nat} (hj : j < 15) (ha : a / 256 = j) :
    walkOf w a = w[j] + (w[j + 1] - w[j]) * ((a % 256 : Nat) : Int) / 256 := by
  simp [walkOf, ha, Nat.not_le.2 hj, Vector.getElem?_eq_getElem (show j < 16 by omega),
    Vector.getElem?_eq_getElem (show j + 1 < 16 by omega)]

/-- The weighted sum (x - low) (256 - f) + (y - low) f is not negative, and the floor keeps an integer bound from below. -/
theorem le_interpolated {low x y : Int} {f : Nat} (hx : low ≤ x) (hy : low ≤ y) (hf : f < 256) :
    low ≤ x + (y - x) * f / 256 := by
  have hstart : 0 ≤ (x - low) * (256 - f) := Int.mul_nonneg (by omega) (by omega)
  have hend : 0 ≤ (y - low) * f := Int.mul_nonneg (by omega) (by omega)
  have hstep : low - x ≤ (y - x) * f / 256 := (Int.le_ediv_iff_mul_le (by decide)).2 (by linarith)
  omega

/-- The weighted sum (high - x) (256 - f) + (high - y) f is not negative, and the floor only lowers. -/
theorem interpolated_le {high x y : Int} {f : Nat} (hx : x ≤ high) (hy : y ≤ high) (hf : f < 256) :
    x + (y - x) * f / 256 ≤ high := by
  have hstart : 0 ≤ (high - x) * (256 - f) := Int.mul_nonneg (by omega) (by omega)
  have hend : 0 ≤ (high - y) * f := Int.mul_nonneg (by omega) (by omega)
  have hstep : (y - x) * f / 256 ≤ high - x := Int.ediv_le_of_le_mul (by decide) (by linarith)
  omega

/-- The walk of a 12-bit amplitude keeps every bound of the table's entries. -/
theorem walkOf_range {w : Vector Int 16} {low high : Int} (hw : ∀ x ∈ w, low ≤ x ∧ x ≤ high) {a : Nat} (ha : a < 4096) :
    low ≤ walkOf w a ∧ walkOf w a ≤ high := by
  rcases Nat.lt_or_ge (a / 256) 15 with hj | hj
  · obtain ⟨hlow, hhigh⟩ := hw w[a / 256] (Vector.getElem_mem _)
    obtain ⟨hlow', hhigh'⟩ := hw w[a / 256 + 1] (Vector.getElem_mem _)
    have hf : a % 256 < 256 := Nat.mod_lt a (by decide)
    rw [walkOf_interpolated w hj rfl]
    exact ⟨le_interpolated hlow hlow' hf, interpolated_le hhigh hhigh' hf⟩
  · rw [walkOf_last w (by omega)]
    exact hw w[15] (Vector.getElem_mem _)

/-- Settles O18, by the two forms of the walk and the bounds of an interpolated value. -/
theorem walkInterpolated : Obligations.WalkInterpolated := by
  refine fun w a ha hw => ⟨walkOf_last w, fun j hj hclass => ?_, walkOf_range hw ha⟩
  have hwalk := walkOf_interpolated w hj hclass
  exact ⟨hwalk, fun hf => by simp [hwalk, hf]⟩

end Sys2Proof.Proofs.Walk

/-! Return qualification of chapter 4: agreement with a neighbour and the continuity mode (R65 to R68). -/

namespace Sys2Proof.Proofs.Continuity

open Sys2Proof.Machine

section
variable {c : Settings} {left right : Option ClosedShot} {r : Nat}

@[simp] theorem agrees_iff {n : ClosedShot} {tolerance : Nat} :
    n.agrees tolerance r = true ↔ ∃ x ∈ n.returns, ((r : Int) - x.range).natAbs ≤ tolerance := by
  simp only [ClosedShot.agrees, List.any_eq_true, decide_eq_true_eq]

theorem not_agrees_of_no_returns {n : ClosedShot} (hn : n.returns = []) (tolerance : Nat) :
    ¬ n.agrees tolerance r = true := by
  simp [hn]

theorem confirmed_off (h : c.continuity = .off) : confirmed c left right r = true := by
  simp [confirmed, h]

theorem confirmed_oneSide_iff (h : c.continuity = .oneSide) : confirmed c left right r = true ↔
    (∃ n, left = some n ∧ n.agrees c.tolerance r = true) ∨ ∃ n, right = some n ∧ n.agrees c.tolerance r = true := by
  simp only [confirmed, h, Bool.or_eq_true, Option.any_eq_true]

theorem confirmed_both_iff (h : c.continuity = .both) : confirmed c left right r = true ↔
    ¬ (left = none ∧ right = none) ∧ (∀ n, left = some n → n.agrees c.tolerance r = true) ∧
      ∀ n, right = some n → n.agrees c.tolerance r = true := by
  have hpresent : (left.isSome || right.isSome) = true ↔ ¬ (left = none ∧ right = none) := by
    rw [Bool.or_eq_true, Option.isSome_iff_ne_none, Option.isSome_iff_ne_none, not_and_or]
  simp only [confirmed, h, Bool.and_eq_true, hpresent, Option.all_eq_true, and_assoc]

/-- A shot with no neighbour has nothing to agree with. -/
theorem lone_unconfirmed (h : c.continuity ≠ .off) : confirmed c none none r = false := by
  rw [← Bool.not_eq_true]
  intro hconfirmed
  cases hmode : c.continuity with
  | off => exact h hmode
  | oneSide =>
    obtain ⟨n, hn, _⟩ | ⟨n, hn, _⟩ := (confirmed_oneSide_iff hmode).1 hconfirmed <;> cases hn
  | both =>
    obtain ⟨hpresent, _⟩ := (confirmed_both_iff hmode).1 hconfirmed
    exact hpresent ⟨rfl, rfl⟩

/-- In BOTH a present neighbour with no returns, a missing shot among them, confirms nothing. -/
theorem unconfirmed_beside_no_returns (h : c.continuity = .both) {n : ClosedShot} (hn : n.returns = [])
    (hside : left = some n ∨ right = some n) : confirmed c left right r = false := by
  rw [← Bool.not_eq_true]
  intro hconfirmed
  obtain ⟨_, hleft, hright⟩ := (confirmed_both_iff h).1 hconfirmed
  exact not_agrees_of_no_returns hn c.tolerance (hside.elim (hleft n) (hright n))

end

/-- Settles O21, by the condition that each continuity mode puts on the neighbours. -/
theorem continuityConfirms : Obligations.ContinuityConfirms := by
  intro c left right r
  simp only [← agrees_iff]
  refine ⟨confirmed_off, confirmed_oneSide_iff, confirmed_both_iff, ?_, fun h n => unconfirmed_beside_no_returns h⟩
  rintro h rfl rfl
  exact lone_unconfirmed h

end Sys2Proof.Proofs.Continuity

/-! Return selection of chapter 4 (R70): each mode that keeps one return keeps the earliest of least key, where the key is the
range, the range in reverse order, or the amplitude in reverse order and then the range. -/

namespace Sys2Proof.Proofs.Selection

open Sys2Proof.Machine

section
variable {α : Type} [LinearOrder α] {key : PointReturn → α} {better : PointReturn → PointReturn → Bool}

theorem pickBest_concat (r x : PointReturn) (rs : List PointReturn) : pickBest better (r :: rs ++ [x]) =
    (pickBest better (r :: rs)).map fun best => if better x best then x else best := by
  simp [pickBest]

/-- The left fold of the model is Mathlib's `argmin`, which also keeps the earlier of equals. -/
theorem pickBest_eq_argmin (hbetter : ∀ x y, better x y = true ↔ key x < key y) (rs : List PointReturn) :
    pickBest better rs = (rs.argmin key).toList := by
  induction rs using List.reverseRecOn with
  | nil => rfl
  | append_singleton rs x ih =>
    cases rs with
    | nil => rfl
    | cons r rs =>
      obtain ⟨best, hbest⟩ := Option.ne_none_iff_exists'.1 (mt (List.argmin_eq_none (f := key)).1 (List.cons_ne_nil r rs))
      simp only [pickBest_concat, ih, List.argmin_concat, hbest, hbetter, Option.toList_some, List.map_singleton]
      split <;> rfl

/-- A least element sits after greater ones only: before the place where it first stands, nothing equals it. -/
theorem split_at_argmin {rs : List PointReturn} {r : PointReturn} (h : r ∈ rs.argmin key) :
    ∃ pre post, rs = pre ++ r :: post ∧ (∀ x ∈ pre, key r < key x) ∧ ∀ x ∈ post, key r ≤ key x := by
  obtain ⟨hmem, hleast, hearliest⟩ := List.mem_argmin_iff.1 h
  obtain ⟨pre, post, rfl, hfirst⟩ := List.eq_append_cons_of_mem hmem
  refine ⟨pre, post, rfl, fun x hx => (hleast x (by simp [hx])).lt_of_ne fun hequal => ?_, fun x hx => hleast x (by simp [hx])⟩
  have hplace : pre.length ≤ pre.idxOf x := by
    simpa [List.idxOf_append_of_notMem hfirst, List.idxOf_append_of_mem hx] using hearliest x (by simp [hx]) hequal.ge
  exact absurd (List.idxOf_lt_length_of_mem hx) hplace.not_gt

theorem pickBest_keeps_earliest_least (hbetter : ∀ x y, better x y = true ↔ key x < key y) {rs : List PointReturn}
    (hrs : rs ≠ []) : ∃ pre r post, rs = pre ++ r :: post ∧ pickBest better rs = [r] ∧ (∀ x ∈ pre, key r < key x) ∧
      ∀ x ∈ post, key r ≤ key x := by
  obtain ⟨r, hr⟩ := Option.ne_none_iff_exists'.1 (mt (List.argmin_eq_none (f := key)).1 hrs)
  obtain ⟨pre, post, hsplit, hpre, hpost⟩ := split_at_argmin hr
  exact ⟨pre, r, post, hsplit, by rw [pickBest_eq_argmin hbetter, hr, Option.toList_some], hpre, hpost⟩

end

/-- The key of STRONGEST: the amplitude, the higher first, and then the range. -/
def strengthKey (x : PointReturn) : ℕᵒᵈ ×ₗ ℕ := toLex (OrderDual.toDual x.amplitude, x.range)

theorem strengthKey_lt_iff {x y : PointReturn} : strengthKey x < strengthKey y ↔
    y.amplitude < x.amplitude ∨ (y.amplitude = x.amplitude ∧ x.range < y.range) := by
  simp [strengthKey, Prod.Lex.toLex_lt_toLex, eq_comm]

theorem strengthKey_le_iff {x y : PointReturn} : strengthKey x ≤ strengthKey y ↔
    y.amplitude < x.amplitude ∨ (y.amplitude = x.amplitude ∧ x.range ≤ y.range) := by
  simp [strengthKey, Prod.Lex.toLex_le_toLex, eq_comm]

theorem select_first {rs : List PointReturn} (hrs : rs ≠ []) :
    ∃ pre r post, rs = pre ++ r :: post ∧ select .first rs = [r] ∧ (∀ x ∈ pre, r.range < x.range) ∧
      ∀ x ∈ post, r.range ≤ x.range :=
  pickBest_keeps_earliest_least (key := (·.range)) (fun _ _ => decide_eq_true_iff) hrs

theorem select_last {rs : List PointReturn} (hrs : rs ≠ []) :
    ∃ pre r post, rs = pre ++ r :: post ∧ select .last rs = [r] ∧ (∀ x ∈ pre, x.range < r.range) ∧
      ∀ x ∈ post, x.range ≤ r.range :=
  pickBest_keeps_earliest_least (key := fun x => OrderDual.toDual x.range) (fun _ _ => decide_eq_true_iff) hrs

theorem select_strongest {rs : List PointReturn} (hrs : rs ≠ []) :
    ∃ pre r post, rs = pre ++ r :: post ∧ select .strongest rs = [r] ∧
      (∀ x ∈ pre, x.amplitude < r.amplitude ∨ (x.amplitude = r.amplitude ∧ r.range < x.range)) ∧
      ∀ x ∈ post, x.amplitude < r.amplitude ∨ (x.amplitude = r.amplitude ∧ r.range ≤ x.range) := by
  simp only [← strengthKey_lt_iff, ← strengthKey_le_iff]
  exact pickBest_keeps_earliest_least
    (fun x y => by rw [decide_eq_true_iff, strengthKey_lt_iff, eq_comm (a := x.amplitude)]) hrs

theorem select_all (rs : List PointReturn) : select .all rs = rs := rfl

/-- Settles O22, mode by mode. -/
theorem returnSelected : Obligations.ReturnSelected := fun rs hrs =>
  ⟨select_first hrs, select_last hrs, select_strongest hrs, select_all rs⟩

end Sys2Proof.Proofs.Selection

/-! The commands as effects: exec answers the effect of a command on a part with supply, so that a law of every command is
one case analysis over effects. -/

namespace Sys2Proof.Proofs.Effects

open Sys2Proof.Machine

/-- The effect of a command on a part with supply; a row of the command lane is its frame and what the command does. -/
def effect : Instr → State → State
  | .powerOn levels => powerOnAct levels
  | .resetLine levels => resetLineAct levels
  | .encoderEdge enc a b => encoderEdgeAct enc a b
  | .encoderIndex enc level => encoderIndexAct enc level
  | .absenceTimerExpiry => absenceAct
  | .localTimeLimit => localTimeLimitAct
  | .scheduledInstant => scheduledInstantAct
  | .firePulseEnd => firePulseEndAct
  | .emitExpiry => emitExpiryAct
  | .echoSet transfer => echoSetAct transfer.header transfer.bytes
  | .finishReport => finishReportAct
  | .attemptLimitExpiry => attemptLimitAct
  | .inPositionRise => inPositionAct
  | .headFaultTimerExpiry => headFaultAct
  | .settleEnd => settleEndAct
  | .grantTimeout => grantTimeoutAct
  | .cameraExposureEnd camera => cameraEndAct camera
  | .photoRelease => photoReleaseAct
  | .carrierSenseRise => carrierRiseAct
  | .carrierSenseFall => carrierFallAct
  | .accessTimerExpiry => accessExpiryAct
  | .sendingEnd => sendingEndAct
  | .jamTimerExpiry => jamExpiryAct
  | .beaconTimerExpiry => beaconExpiryAct
  | .leaveTimerExpiry => leaveExpiryAct
  | .siteFrameReceived station kind payload check => siteFrameAct station kind payload check
  | .byteGapExpiry => byteGapAct
  | .ageTimerExpiry station => ageExpiryAct station
  | .joinTimerExpiry => joinExpiryAct
  | .quietWindowExpiry station => windowExpiryAct station
  | .reportWordTaken => reportWordAct
  | .laneByteDropped => laneDropAct
  | .laneGapExpiry => laneGapAct
  | .badFrame frame => badFrameAct frame
  | .writeCompletion => writeCompletionAct
  | .siteByteReceived byte stopBitOk => siteByteAct byte stopBitOk
  | .laneByteReceived byte => laneByteAct byte
  | .powerLoss => powerLossAct
  | c => State.commandFrame c (commandAct c)

theorem act_powered (f : State → State) {s : State} (hp : s.powered = true) : act f s = .next (f s) :=
  congrArg _ (if_pos hp)

theorem act_unpowered (f : State → State) {s : State} (hp : s.powered = false) : act f s = .next s :=
  congrArg _ (if_neg (by simp [hp]))

theorem exec_eq_effect (c : Instr) {s : State} (hp : s.powered = true) : exec c s = .next (effect c s) := by
  cases c with
  | powerOn levels => rfl
  | _ => exact act_powered _ hp

/-- A part without supply takes POWER_ON alone (R204). -/
theorem exec_unpowered {c : Instr} {s : State} (hp : s.powered = false) (hc : ∀ levels, c ≠ .powerOn levels) :
    exec c s = .next s := by
  cases c with
  | powerOn levels => exact absurd rfl (hc levels)
  | _ => exact act_unpowered _ hp

/-- What exec can answer. -/
theorem exec_outcome {c : Instr} {s t : State} (h : exec c s = .next t) : t = s ∨ t = effect c s := by
  cases hp : s.powered with
  | true =>
    rw [exec_eq_effect c hp] at h
    exact .inr (Host.Outcome.next.inj h).symm
  | false =>
    cases c with
    | powerOn levels => exact .inr (Host.Outcome.next.inj h).symm
    | _ =>
      rw [exec_unpowered hp (by simp)] at h
      exact .inl (Host.Outcome.next.inj h).symm

/-- A command on a part with supply answers what its effect is shown to be. -/
theorem exec_next {c : Instr} {s t : State} (hp : s.powered = true) (h : effect c s = t) : exec c s = .next t :=
  (exec_eq_effect c hp).trans (congrArg _ h)

end Sys2Proof.Proofs.Effects

/-! The firing gate of chapter 2 (R29): a pulse of FIRE begins at a scheduled instant with the whole gate open, and nowhere
else. -/

namespace Sys2Proof.Proofs.Gate

open Sys2Proof.Machine Sys2Proof.Proofs.Effects

/-- From one state to another no pulse of FIRE begins: the output stands as it was, or is low. -/
def NoRise (s t : State) : Prop := t.emt.fire = s.emt.fire ∨ t.emt.fire = none

theorem NoRise.of_clock {s t : State} (h : t.clock = s.clock) : NoRise s t := .inl (congrArg Clock.fire h)

theorem NoRise.trans {s t u : State} (hst : NoRise s t) (htu : NoRise t u) : NoRise s u :=
  htu.elim (fun h => hst.imp h.trans h.trans) .inr

/-! ## Resets and commands of the lane -/

theorem rest_emt (s : State) : s.rest.emt = s.emt := rfl

theorem resetPart_noRise (cause : ResetCause) (row : Option Nat) (levels : InputLevels) (s : State) :
    NoRise s (s.resetPart cause row levels) := by
  obtain ⟨_, hrest, _⟩ := State.resetPart_rest cause row levels s
  have hemt : (s.resetPart cause row levels).rest.emt = .reset := by rw [hrest]; rfl
  rw [rest_emt] at hemt
  exact .inr (by rw [hemt]; rfl)

theorem resetAct_noRise (levels : InputLevels) (s : State) : NoRise s (resetAct levels s) := by
  unfold resetAct
  exact (resetPart_noRise _ _ _ s).trans (.of_clock (State.sendReply_clock _ _))

theorem commandAct_noRise (c : Instr) (s : State) : NoRise s (commandAct c s) := by
  cases c with
  | configure => exact .of_clock (configureAct_clock _ s)
  | loadTable => exact .of_clock (loadTableAct_clock _ _ s)
  | readTable => exact .of_clock (readTableAct_clock _ s)
  | calStore => exact .of_clock (calStoreAct_clock _ s)
  | calReload => exact .of_clock (calReloadAct_clock _ s)
  | planWrite => exact .of_clock (planWriteAct_clock _ _ s)
  | planRead => exact .of_clock (planReadAct_clock _ _ s)
  | start => exact .of_clock (startAct_clock _ s)
  | stop => exact .of_clock (stopAct_clock s)
  | pause => exact .of_clock (pauseAct_clock s)
  | continueRun => exact .of_clock (continueAct_clock s)
  | status => exact .of_clock (statusAct_clock s)
  | peers => exact .of_clock (peersAct_clock s)
  | photos => exact .of_clock (photosAct_clock s)
  | reset levels => exact resetAct_noRise levels s
  | _ => exact .inl rfl

theorem laneFrame_noRise (frame : List Byte) {f : State → State} (s : State) (hf : ∀ t, NoRise t (f t)) :
    NoRise s (s.laneFrame frame f) := by
  unfold State.laneFrame
  split
  · exact .trans (.of_clock (State.frameEnded_clock s)) (hf _)
  · split
    · exact .of_clock (State.dropLane_clock _ s)
    · exact .inl rfl

theorem commandFrame_noRise (c : Instr) (s : State) : NoRise s (State.commandFrame c (commandAct c) s) := by
  refine laneFrame_noRise _ s fun t => ?_
  split
  · exact commandAct_noRise c t
  · exact .of_clock (State.sendReply_clock _ t)

theorem runFrame_noRise (frame : List Byte) (s : State) : NoRise s (s.runFrame frame) := by
  unfold State.runFrame
  split
  · exact .trans (.of_clock (State.drawnFor_clock _ s)) (commandAct_noRise _ _)
  · exact .of_clock (State.sendReply_clock _ s)

theorem receiveBytes_noRise (bytes : List Byte) (s : State) : NoRise s (s.receiveBytes bytes) := by
  unfold State.receiveBytes
  split
  · exact .trans (.of_clock (State.frameEnded_clock s)) (runFrame_noRise bytes _)
  · exact .inl rfl

theorem laneByteAct_noRise (byte : Byte) (s : State) : NoRise s (laneByteAct byte s) := by
  unfold laneByteAct
  split
  · exact receiveBytes_noRise _ s
  · split
    · exact receiveBytes_noRise _ s
    · exact .of_clock (State.dropLane_clock 1 s)

/-! ## Commands that fire no shot -/

theorem firePulseEndAct_noRise (s : State) : NoRise s (firePulseEndAct s) := by
  unfold firePulseEndAct
  split
  · exact .inr rfl
  · exact .inl rfl

theorem localTimeLimitAct_noRise (s : State) : NoRise s (localTimeLimitAct s) := by
  unfold localTimeLimitAct
  split <;> exact .inl rfl

theorem effect_noRise {c : Instr} (hc : c ≠ .scheduledInstant) (s : State) : NoRise s (effect c s) := by
  cases c with
  | powerOn levels => exact (resetPart_noRise _ _ _ s).trans (.of_clock (State.raiseReady_clock _))
  | resetLine levels => exact (resetPart_noRise _ _ _ s).trans (.of_clock (State.raiseReady_clock _))
  | powerLoss => exact .inr rfl
  | localTimeLimit => exact localTimeLimitAct_noRise s
  | scheduledInstant => exact absurd rfl hc
  | firePulseEnd => exact firePulseEndAct_noRise s
  | laneByteReceived byte => exact laneByteAct_noRise byte s
  | configure | loadTable | readTable | calStore | calReload | planWrite | planRead | start | stop | pause | continueRun
  | status | peers | photos | reset => exact commandFrame_noRise _ s
  | encoderEdge => exact .of_clock (encoderEdgeAct_clock _ _ _ s)
  | encoderIndex => exact .of_clock (encoderIndexAct_clock _ _ s)
  | absenceTimerExpiry => exact .of_clock (absenceAct_clock s)
  | emitExpiry => exact .of_clock (emitExpiryAct_clock s)
  | echoSet => exact .of_clock (echoSetAct_clock _ _ s)
  | finishReport => exact .of_clock (finishReportAct_clock s)
  | attemptLimitExpiry => exact .of_clock (attemptLimitAct_clock s)
  | inPositionRise => exact .of_clock (inPositionAct_clock s)
  | headFaultTimerExpiry => exact .of_clock (headFaultAct_clock s)
  | settleEnd => exact .of_clock (settleEndAct_clock s)
  | grantTimeout => exact .of_clock (grantTimeoutAct_clock s)
  | cameraExposureEnd => exact .of_clock (cameraEndAct_clock _ s)
  | photoRelease => exact .of_clock (photoReleaseAct_clock s)
  | carrierSenseRise => exact .of_clock (carrierRiseAct_clock s)
  | carrierSenseFall => exact .of_clock (carrierFallAct_clock s)
  | accessTimerExpiry => exact .of_clock (accessExpiryAct_clock s)
  | sendingEnd => exact .of_clock (sendingEndAct_clock s)
  | jamTimerExpiry => exact .of_clock (jamExpiryAct_clock s)
  | beaconTimerExpiry => exact .of_clock (beaconExpiryAct_clock s)
  | leaveTimerExpiry => exact .of_clock (leaveExpiryAct_clock s)
  | siteFrameReceived => exact .of_clock (siteFrameAct_clock _ _ _ _ s)
  | byteGapExpiry => exact .of_clock (byteGapAct_clock s)
  | ageTimerExpiry => exact .of_clock (ageExpiryAct_clock _ s)
  | joinTimerExpiry => exact .of_clock (joinExpiryAct_clock s)
  | quietWindowExpiry => exact .of_clock (windowExpiryAct_clock _ s)
  | reportWordTaken => exact .of_clock (reportWordAct_clock s)
  | laneByteDropped => exact .of_clock (laneDropAct_clock s)
  | laneGapExpiry => exact .of_clock (laneGapAct_clock s)
  | badFrame => exact .of_clock (badFrameAct_clock _ s)
  | writeCompletion => exact .of_clock (writeCompletionAct_clock s)
  | siteByteReceived => exact .of_clock (siteByteAct_clock _ _ s)

/-! ## The scheduled instant -/

/-- No condition is closed: what the judgement of a candidate finds before it fires (R29, R32). -/
theorem conditions_open {s : State} (h : s.closedConditions.anyClosed = false) :
    s.cmu.device = .running ∧ s.slc.membership = .live ∧ s.anu.monitor = .ok ∧ s.pwk.state = .line ∧
      s.phc.ownQuiet = false ∧ s.pru.quietClosed = false ∧ holdStanding s.cmu.settings s.pru = false := by
  simp only [GateConditions.anyClosed, State.closedConditions, Bool.or_eq_false_iff, Bool.not_eq_false', Bool.and_eq_true,
    beq_iff_eq] at h
  obtain ⟨⟨⟨⟨⟨⟨hdevice, hmembership⟩, hmonitor⟩, hwalker⟩, hphoto⟩, hquiet⟩, hhold⟩ := h
  exact ⟨hdevice, hmembership, hmonitor, hwalker, hphoto, hquiet, hhold⟩

/-- A handled instant leaves FIRE alone, or the gate is open. -/
theorem handleInstant_fire (s : State) : s.handleInstant.1.emt.fire = s.emt.fire ∨ s.gateOpen := by
  unfold State.handleInstant
  cases hctx : s.emt.context with
  | none => exact .inl rfl
  | some ctx =>
    dsimp only
    split
    case isFalse => exact .inl rfl
    case isTrue hcandidate =>
      unfold State.judgeInstant
      dsimp only
      split
      · exact .inl rfl
      · rename_i hopen
        split
        · rename_i heligible
          obtain ⟨hdevice, hmembership, hmonitor, hwalker, hphoto, hquiet, hhold⟩ := conditions_open (by simpa using hopen)
          simp only [EmitContext.candidate, Bool.and_eq_true, decide_eq_true_eq, Bool.not_eq_true'] at hcandidate
          obtain ⟨⟨hfrom, hto⟩, hblind⟩ := hcandidate
          exact .inr ⟨hdevice, hmembership, hmonitor, hwalker, hphoto, hquiet, hhold, ctx, hctx, hfrom, hto, hblind,
            by simpa [EmitContext.eligible] using heligible⟩
        · exact .inl rfl

theorem scheduledInstantAct_fire (s : State) :
    (scheduledInstantAct s).emt.fire = s.emt.fire ∨ (s.instantDue = true ∧ s.gateOpen) := by
  unfold scheduledInstantAct State.instantDue
  cases hschedule : s.emt.schedule with
  | none => exact .inl rfl
  | some instant =>
    dsimp only
    split
    case isFalse => exact .inl rfl
    case isTrue hdue =>
      refine (handleInstant_fire s).imp (fun hfire => ?_) fun hgate => ⟨by simpa using hdue, hgate⟩
      exact (congrArg Clock.fire (State.takeNotice_clock _ _)).trans hfire

/-- Settles O16: every other command begins no pulse, and a scheduled instant fires only where it finds the gate open. -/
theorem fireOnlyThroughGate : Obligations.FireOnlyThroughGate := by
  intro s t c p hexec hpulse hnew
  have hrise : ¬ NoRise s t := by
    rintro (hkept | hlow)
    · exact hnew (hkept ▸ hpulse)
    · simp [hlow] at hpulse
  have hc : c = .scheduledInstant := by
    by_contra hc
    rcases exec_outcome hexec with rfl | rfl
    · exact hrise (.inl rfl)
    · exact hrise (effect_noRise hc s)
  subst hc
  have hp : s.powered = true := by
    by_contra hoff
    rw [exec_unpowered (by simpa using hoff) (by simp)] at hexec
    exact hrise (.inl (congrArg (fun r => r.emt.fire) (Host.Outcome.next.inj hexec).symm))
  rw [exec_eq_effect _ hp] at hexec
  cases hexec
  obtain ⟨hdue, hgate⟩ := (scheduledInstantAct_fire s).resolve_left fun h => hrise (.inl h)
  exact ⟨rfl, hp, hdue, hgate⟩

end Sys2Proof.Proofs.Gate

/-! The bounds that a step keeps (O59), and that the reset state meets (O60): at most two open shots (R41), at most 64
catalogue entries (R89), the peers' timers within their limits (R141, R154), and those of the report stream and of local time. Each operation of the model has one law here, in the
order of the model's files: it keeps these bounds, or does not touch what they speak of. -/

namespace Sys2Proof.Proofs.Bounds

open Sys2Proof.Machine Sys2Proof.Proofs.Effects

/-- The bounds of s, and that of local time, hold as far as they held of s₀, where a command found the part. -/
def Within (s₀ s : State) : Prop :=
  (s₀.rgu.Sound → s.rgu.Sound) ∧ (s₀.phc.Sound → s.phc.Sound) ∧ (s₀.pru.Bounded s₀.time → s.pru.Bounded s.time) ∧
    (s₀.TimeSound → s.TimeSound)

theorem Within.refl (s : State) : Within s s := ⟨id, id, id, id⟩

section
variable {s₀ s : State}

/-! ## Updates of one block -/

@[simp] theorem withAnu_within (x : Anu) : Within s₀ (s.withAnu x) ↔ Within s₀ s := Iff.rfl

@[simp] theorem withEmt_within (x : Emt) : Within s₀ (s.withEmt x) ↔ Within s₀ s := Iff.rfl

@[simp] theorem withPta_within (x : Pta) : Within s₀ (s.withPta x) ↔ Within s₀ s := Iff.rfl

@[simp] theorem withPwk_within (x : Pwk) : Within s₀ (s.withPwk x) ↔ Within s₀ s := Iff.rfl

@[simp] theorem withSlc_within (x : Slc) : Within s₀ (s.withSlc x) ↔ Within s₀ s := Iff.rfl

@[simp] theorem withRps_within (x : Rps) : Within s₀ (s.withRps x) ↔ Within s₀ s := Iff.rfl

@[simp] theorem withCmu_within (x : Cmu) : Within s₀ (s.withCmu x) ↔ Within s₀ s := Iff.rfl

@[simp] theorem withCst_within (x : Cst) : Within s₀ (s.withCst x) ↔ Within s₀ s := Iff.rfl

@[simp] theorem withPending_within (x : List Instr) : Within s₀ (s.withPending x) ↔ Within s₀ s := Iff.rfl

@[simp] theorem drawn_within : Within s₀ s.drawn ↔ Within s₀ s := Iff.rfl

theorem withRgu_within_of {x : Rgu} (hs : Within s₀ s) (hx : s.rgu.Sound → x.Sound) : Within s₀ (s.withRgu x) :=
  ⟨fun h => hx (hs.1 h), hs.2⟩

@[simp] theorem withRgu_within {x : Rgu} (hs : Within s₀ s) (hx : x.openShots.length ≤ s.rgu.openShots.length) :
    Within s₀ (s.withRgu x) := withRgu_within_of hs hx.trans

theorem withPhc_within_of {x : Phc} (hs : Within s₀ s) (hx : s.phc.Sound → x.Sound) : Within s₀ (s.withPhc x) :=
  ⟨hs.1, fun h => hx (hs.2.1 h), hs.2.2⟩

@[simp] theorem withPhc_within {x : Phc} (hs : Within s₀ s) (hx : x.catalogue = s.phc.catalogue) :
    Within s₀ (s.withPhc x) := withPhc_within_of hs fun h => by simpa [Phc.Sound, hx] using h

theorem withPru_within_of {x : Pru} (hs : Within s₀ s) (hx : s.pru.Bounded s.time → x.Bounded s.time) :
    Within s₀ (s.withPru x) := ⟨hs.1, hs.2.1, fun h => hx (hs.2.2.1 h), hs.2.2.2⟩

/-- The table without entries. -/
theorem reset_bounded (now : Nat) : Pru.reset.Bounded now := by
  intro n p hp
  simp only [Pru.peer, Pru.reset] at hp
  split at hp
  · cases hp
  · rw [Vector.getElem?_replicate] at hp
    split at hp <;> cases hp

/-- A slot that is read was written by the update or stood before it. -/
theorem peer_setPeer {x : Pru} {n m : Nat} {q : Option Peer} {p : Peer} (h : (x.setPeer n q).peer m = some p) :
    q = some p ∨ x.peer m = some p := by
  by_cases hn : n = 0
  · exact .inr (by simpa [Pru.setPeer, hn] using h)
  · by_cases hm : m = 0
    · simp [Pru.peer, hm] at h
    · simp only [Pru.setPeer, Pru.peer, if_neg hn, if_neg hm, Vector.getElem?_setIfInBounds] at h ⊢
      split at h
      · split at h
        · exact .inl h
        · cases h
      · exact .inr h

/-- A slot takes an entry within its bounds, or none. -/
theorem setPeer_within {n : Nat} {q : Option Peer} (hs : Within s₀ s)
    (hq : s.pru.Bounded s.time → ∀ p, q = some p → p.Bounded s.time) : Within s₀ (s.withPru (s.pru.setPeer n q)) :=
  withPru_within_of hs fun hbounds m p hp => (peer_setPeer hp).elim (hq hbounds p) (hbounds m p)

/-! ## Report stream, encoders and points -/

@[simp] theorem raise_within (e : Event) : Within s₀ (s.raise e) ↔ Within s₀ s := Iff.rfl

@[simp] theorem enter_within (r : Record) : Within s₀ (s.enter r) ↔ Within s₀ s := Iff.rfl

@[simp] theorem noteEvent_within (e : Event) : Within s₀ (s.noteEvent e) ↔ Within s₀ s := Iff.rfl

@[simp] theorem serveEvents_within : Within s₀ s.serveEvents ↔ Within s₀ s := Iff.rfl

@[simp] theorem raiseInRun_within (e : Event) : Within s₀ (s.raiseInRun e) ↔ Within s₀ s := by
  simp only [State.raiseInRun]; (repeat' split) <;> simp [*]

@[simp] theorem sendReply_within (r : Reply) : Within s₀ (s.sendReply r) ↔ Within s₀ s := by
  simp only [State.sendReply]; (repeat' split) <;> simp [*]

@[simp] theorem requestFrame_within (k : FrameKind) : Within s₀ (s.requestFrame k) ↔ Within s₀ s := Iff.rfl

@[simp] theorem requestBeacon_within : Within s₀ s.requestBeacon ↔ Within s₀ s := Iff.rfl

@[simp] theorem raiseOption_within (e : Option Event) : Within s₀ (s.raiseOption e) ↔ Within s₀ s := by
  simp only [State.raiseOption]; (repeat' split) <;> simp [*]

@[simp] theorem anuIndex_within (enc : Encoder) : Within s₀ (s.anuIndex enc) ↔ Within s₀ s := by
  simp only [State.anuIndex]; (repeat' split) <;> simp [*]

@[simp] theorem absenceAct_within : Within s₀ (absenceAct s) ↔ Within s₀ s := by
  simp only [absenceAct]; (repeat' split) <;> simp [*]

@[simp] theorem judgeShot_within (left : Option ClosedShot) (h : ClosedShot) (right : Option ClosedShot) : Within s₀ (s.judgeShot left h right) ↔ Within s₀ s := by
  simp only [State.judgeShot, State.offerPoint]; (repeat' split) <;> simp [*]

@[simp] theorem ptaOpen_within (line attempt : Nat) (mode : ReturnMode) : Within s₀ (s.ptaOpen line attempt mode) ↔ Within s₀ s := Iff.rfl

@[simp] theorem ptaTake_within (c : ClosedShot) : Within s₀ (s.ptaTake c) ↔ Within s₀ s := by
  simp only [State.ptaTake, State.ptaAdmit]; (repeat' split) <;> simp [*]

@[simp] theorem ptaEnd_within (kind : EndKind) (line attempt : Nat) : Within s₀ (s.ptaEnd kind line attempt) ↔ Within s₀ s := by
  simp only [State.ptaEnd, State.ptaFinish]; (repeat' split) <;> simp [*]

@[simp] theorem ptaRunEnd_within : Within s₀ s.ptaRunEnd ↔ Within s₀ s := Iff.rfl

/-! ## Open shots -/

@[simp] theorem closeAllMissing_within (shots : List Shot) : Within s₀ (s.closeAllMissing shots) ↔ Within s₀ s := by
  induction shots generalizing s with
  | nil => rfl
  | cons sh rest ih => simp [State.closeAllMissing, State.closeMissing, ih]

/-- A list of three closes its oldest (R41). -/
@[simp] theorem rguFire_within (sh : Shot) (hs : Within s₀ s) : Within s₀ (s.rguFire sh) := by
  unfold State.rguFire
  split
  · split
    · rename_i shots
      refine (ptaTake_within _).2 (withRgu_within_of hs fun h => ?_)
      have := congrArg List.length shots
      simp only [List.length_append, List.length_cons, List.length_nil] at this
      simp only [Rgu.Sound, List.length_cons] at h ⊢
      omega
    · rename_i hshots
      refine withRgu_within_of hs fun _ => ?_
      rcases hlist : s.rgu.openShots ++ [sh] with _ | ⟨a, _ | ⟨b, _ | ⟨c, rest⟩⟩⟩
      · simp [Rgu.Sound]
      · simp [Rgu.Sound]
      · simp [Rgu.Sound]
      · exact absurd hlist (hshots a b c rest)
  · exact hs

@[simp] theorem rguOpen_within (line attempt : Nat) (watch : Bool) : Within s₀ (s.rguOpen line attempt watch) ↔ Within s₀ s := Iff.rfl

@[simp] theorem rguEnd_within (kind : EndKind) (line attempt : Nat) (hs : Within s₀ s) : Within s₀ (s.rguEnd kind line attempt) := by
  simp [State.rguEnd, hs]

@[simp] theorem rguRunEnd_within (hs : Within s₀ s) : Within s₀ s.rguRunEnd := by
  simp [State.rguRunEnd, hs]

theorem splitAtTag_length {tag : Nat} {shots older younger : List Shot} {sh : Shot}
    (h : splitAtTag tag shots = some (older, sh, younger)) : younger.length ≤ shots.length := by
  induction shots generalizing older with
  | nil => cases h
  | cons x xs ih =>
    unfold splitAtTag at h
    split at h
    · cases h
      simp
    · obtain ⟨⟨older', sh', younger'⟩, hp, heq⟩ := Option.map_eq_some_iff.1 h
      obtain ⟨-, rfl, rfl⟩ : x :: older' = older ∧ sh' = sh ∧ younger' = younger := by simpa using heq
      exact (ih hp).trans (by simp)

@[simp] theorem takeSet_within (e : EchoSet) (hs : Within s₀ s) : Within s₀ (s.takeSet e).1 := by
  unfold State.takeSet
  split
  · exact hs
  · split
    · exact hs
    · split
      · exact hs
      · rename_i hsplit
        unfold State.closeBySet
        refine (ptaTake_within _).2 (withRgu_within ?_ ?_)
        · simp [hs, splitAtTag_length hsplit]
        · unfold Rgu.hitTaken
          split <;> rfl

/-! ## Photographs -/

@[simp] theorem checkGrant_within (hs : Within s₀ s) : Within s₀ s.checkGrant := by
  simp only [State.checkGrant, State.expose]; (repeat' split) <;> simp [*]

@[simp] theorem expose_within (hs : Within s₀ s) : Within s₀ s.expose := by
  simp [State.expose, hs]

@[simp] theorem endSettle_within (hs : Within s₀ s) : Within s₀ s.endSettle := by
  exact checkGrant_within (withPhc_within hs rfl)

@[simp] theorem photoRequest_within (m : CameraSet) (hs : Within s₀ s) : Within s₀ (s.photoRequest m).1 := by
  simp only [State.photoRequest, State.enterSettle]; (repeat' split) <;> simp [*]

@[simp] theorem offerPhotos_within (ps : List Photo) (hs : Within s₀ s) : Within s₀ (s.offerPhotos ps) := by
  induction ps generalizing s with
  | nil => simp [State.offerPhotos, hs]
  | cons p ps ih =>
    unfold State.offerPhotos
    split
    · exact ih (by simpa using hs)
    · simp [hs]

@[simp] theorem queuePhotos_within (ps : List Photo) (hs : Within s₀ s) : Within s₀ (s.queuePhotos ps) := by
  simp only [State.queuePhotos]; (repeat' split) <;> simp [*]

theorem addEntry_length {p : Photo} {catalogue : List Photo} (h : catalogue.length ≤ 64) :
    (addEntry p catalogue).length ≤ 64 := by
  unfold addEntry
  split
  · simp
    omega
  · simp
    omega

/-- The catalogue holds the newest 64 whatever is made (R89). -/
theorem makeEntries_sound (aborted : Bool) (length : Nat → Nat) (cameras : List Nat) {x : Phc} (hx : x.Sound) :
    (Phc.makeEntries aborted length cameras x).1.Sound := by
  induction cameras generalizing x with
  | nil => exact hx
  | cons n rest ih =>
    unfold Phc.makeEntries
    split
    · exact ih hx
    · exact ih (addEntry_length hx)

@[simp] theorem release_within (hs : Within s₀ s) : Within s₀ s.release := by
  unfold State.release
  refine queuePhotos_within _ (withPhc_within_of (by simp [hs]) fun h => ?_)
  exact makeEntries_sound _ _ _ h

@[simp] theorem idleIfDrained_within (hs : Within s₀ s) : Within s₀ s.idleIfDrained := by
  simp only [State.idleIfDrained]; (repeat' split) <;> simp [*]

@[simp] theorem photoAbort_within (hs : Within s₀ s) : Within s₀ s.photoAbort := by
  unfold State.photoAbort
  split
  · exact hs
  · split
    · simp [hs]
    · refine idleIfDrained_within (queuePhotos_within _ (withPhc_within_of hs fun h => ?_))
      exact makeEntries_sound _ _ _ h

@[simp] theorem beaconNotice_within (station : Nat) (listed firing : Bool) (hs : Within s₀ s) : Within s₀ (s.beaconNotice station listed firing) := by
  unfold State.beaconNotice
  split
  · refine checkGrant_within (withPhc_within hs ?_)
    unfold Phc.noteGrant
    (repeat' split) <;> rfl
  · split <;> simp [hs]
  · exact hs

@[simp] theorem removalNotice_within (station : Nat) (hs : Within s₀ s) : Within s₀ (s.removalNotice station) := by
  simp only [State.removalNotice]; (repeat' split) <;> simp [*]

@[simp] theorem quietSent_within (inGrantWait : Bool) (hs : Within s₀ s) : Within s₀ (s.quietSent inGrantWait) := by
  simp only [State.quietSent]; (repeat' split) <;> simp [*]

/-! ## Joining, leaving and the end of a run -/

@[simp] theorem enterJoining_within : Within s₀ s.enterJoining ↔ Within s₀ s := Iff.rfl

@[simp] theorem leaveEnded_within : Within s₀ s.leaveEnded ↔ Within s₀ s := by
  simp only [State.leaveEnded]; (repeat' split) <;> simp [*]

@[simp] theorem leaveLine_within (hs : Within s₀ s) : Within s₀ s.leaveLine := withPru_within_of hs fun _ => reset_bounded _

@[simp] theorem emptyTable_within (hs : Within s₀ s) : Within s₀ s.emptyTable := withPru_within_of hs fun _ => reset_bounded _

@[simp] theorem emtOpen_within (line attempt : Nat) (g : Segment) : Within s₀ (s.emtOpen line attempt g) ↔ Within s₀ s := Iff.rfl

@[simp] theorem emitFall_within : Within s₀ s.emitFall ↔ Within s₀ s := by
  simp only [State.emitFall]; (repeat' split) <;> simp [*]

@[simp] theorem placeRecord_within (r : Record) : Within s₀ (s.placeRecord r) ↔ Within s₀ s := by
  simp only [State.placeRecord]; (repeat' split) <;> simp [*]

@[simp] theorem closeNotice_within : Within s₀ s.closeNotice ↔ Within s₀ s := Iff.rfl

@[simp] theorem orderDrawn_within : Within s₀ s.orderDrawn ↔ Within s₀ s := by
  simp only [State.orderDrawn]; (repeat' split) <;> simp [*]

@[simp] theorem stopAttempt_within (reason : AbandonReason) (hs : Within s₀ s) : Within s₀ (s.stopAttempt reason) := by
  simp only [State.stopAttempt]; (repeat' split) <;> simp [*]

@[simp] theorem walkerRunEnd_within (reason : AbandonReason) (hs : Within s₀ s) : Within s₀ (s.walkerRunEnd reason) := by
  simp [State.walkerRunEnd, hs]

@[simp] theorem shotPathRunEnd_within (hs : Within s₀ s) : Within s₀ s.shotPathRunEnd := by
  simp [State.shotPathRunEnd, State.emtRunEnd, hs]

@[simp] theorem deviceReady_within : Within s₀ s.deviceReady ↔ Within s₀ s := Iff.rfl

@[simp] theorem stopShots_within (hs : Within s₀ s) : Within s₀ s.stopShots := by
  simp only [State.stopShots]; (repeat' split) <;> simp [*]

@[simp] theorem endByStop_within (hs : Within s₀ s) : Within s₀ s.endByStop := by
  exact leaveLine_within (photoAbort_within (stopShots_within hs))

@[simp] theorem endByPlan_within (hs : Within s₀ s) : Within s₀ s.endByPlan := by
  simp [State.endByPlan, hs]

@[simp] theorem endByDuplicate_within (hs : Within s₀ s) : Within s₀ s.endByDuplicate := by
  exact walkerRunEnd_within _ (photoAbort_within (shotPathRunEnd_within hs))

/-! ## The walker -/

@[simp] theorem slewTo_within (target : Nat) : Within s₀ (s.slewTo target).1 ↔ Within s₀ s := Iff.rfl

@[simp] theorem takePhoto_within (m : CameraSet) (hs : Within s₀ s) : Within s₀ (s.takePhoto m).1 := by
  simp [State.takePhoto, afterRequest, hs]

@[simp] theorem planDone_within (hs : Within s₀ s) : Within s₀ s.planDone := by
  simp [State.planDone, hs]

@[simp] theorem takeRecord_within (i : Nat) (hs : Within s₀ s) : Within s₀ (s.takeRecord i).1 := by
  simp only [State.takeRecord]; (repeat' split) <;> simp [*]

@[simp] theorem arrive_within (hs : Within s₀ s) : Within s₀ s.arrive.1 := by
  simp only [State.arrive]; (repeat' split) <;> simp [*]

@[simp] theorem afterLine_within (hs : Within s₀ s) : Within s₀ s.afterLine.1 := by
  simp only [State.afterLine]; (repeat' split) <;> simp [*]

@[simp] theorem nextLine_within : Within s₀ s.nextLine.1 ↔ Within s₀ s := by
  simp only [State.nextLine]; (repeat' split) <;> simp [*]

@[simp] theorem photoDone_within : Within s₀ s.photoDone.1 ↔ Within s₀ s := by
  simp only [State.photoDone]; (repeat' split) <;> simp [*]

@[simp] theorem walkTasks_within (n : Nat) (t : WalkTask) (hs : Within s₀ s) : Within s₀ (s.walkTasks n t) := by
  induction n generalizing s t with
  | zero => exact hs
  | succ n ih =>
    have htask : Within s₀ (s.walkTask t).1 := by cases t <;> simp [State.walkTask, hs]
    unfold State.walkTasks
    split
    · exact ih _ htask
    · exact htask

@[simp] theorem walk_within (t : WalkTask) (hs : Within s₀ s) : Within s₀ (s.walk t) := by
  simp [State.walk, hs]

@[simp] theorem runDeferred_within (hs : Within s₀ s) : Within s₀ s.runDeferred := by
  simp only [State.runDeferred]; (repeat' split) <;> simp [*]

@[simp] theorem defer_within (t : WalkTask) (hs : Within s₀ s) : Within s₀ (s.defer t) := by
  simp [State.defer, hs]

@[simp] theorem photoDrained_within (hs : Within s₀ s) : Within s₀ s.photoDrained := by
  unfold State.photoDrained
  split
  · simp [hs]
  · split
    · dsimp only
      split
      · exact walk_within _ (photoRequest_within _ (withPhc_within hs rfl))
      · exact photoRequest_within _ (withPhc_within hs rfl)
    · exact withPhc_within hs rfl

@[simp] theorem checkDrained_within (hs : Within s₀ s) : Within s₀ s.checkDrained := by
  simp only [State.checkDrained]; (repeat' split) <;> simp [*]

@[simp] theorem endLine_within (a : AttemptRecord) (outcome : LineOutcome) (thinned : Bool) (fired offered : Nat) (hs : Within s₀ s) : Within s₀ (s.endLine a outcome thinned fired offered) := by
  simp only [State.endLine]; (repeat' split) <;> simp [*]

@[simp] theorem retryLine_within (a : AttemptRecord) (reason : AbandonReason) (fired : Nat) : Within s₀ (s.retryLine a reason fired) ↔ Within s₀ s := by
  simp [State.retryLine]

@[simp] theorem finishReportAct_within (hs : Within s₀ s) : Within s₀ (finishReportAct s) := by
  simp only [finishReportAct, State.judgeAttempt]; (repeat' split) <;> simp [*]

@[simp] theorem recordAbandoned_within (reason : AbandonReason) (a : AttemptRecord) (fired : Nat) : Within s₀ (s.recordAbandoned reason a fired) ↔ Within s₀ s := by
  simp only [State.recordAbandoned]; (repeat' split) <;> simp [*]

@[simp] theorem abandon_within (reason : AbandonReason) (a : AttemptRecord) (hs : Within s₀ s) : Within s₀ (s.abandon reason a) := by
  simp only [State.abandon, State.exhaustLine, State.endNotices]; (repeat' split) <;> simp [*]

@[simp] theorem attemptLimitAct_within (hs : Within s₀ s) : Within s₀ (attemptLimitAct s) := by
  simp only [attemptLimitAct]; (repeat' split) <;> simp [*]

@[simp] theorem announceHold_within : Within s₀ s.announceHold ↔ Within s₀ s := by
  simp only [State.announceHold]; (repeat' split) <;> simp [*]

@[simp] theorem takeHit_within (hit : ProximityHit) (hs : Within s₀ s) : Within s₀ (s.takeHit hit) := by
  simp only [State.takeHit, State.halt]; (repeat' split) <;> simp [*]

@[simp] theorem openAttempt_within (g : Segment) : Within s₀ (s.openAttempt g) ↔ Within s₀ s := by
  simp [State.openAttempt]

@[simp] theorem walkerIndex_within (hs : Within s₀ s) : Within s₀ s.walkerIndex := by
  simp only [State.walkerIndex, State.endAttempt, State.endNotices]; (repeat' split) <;> simp [*]

theorem encoderEdgeAct_within (enc : Encoder) (a b : Bool) (hs : Within s₀ s) : Within s₀ (encoderEdgeAct enc a b s) := hs

@[simp] theorem encoderIndexAct_within (enc : Encoder) (level : Bool) (hs : Within s₀ s) : Within s₀ (encoderIndexAct enc level s) := by
  simp only [encoderIndexAct]; (repeat' split) <;> simp [*]

@[simp] theorem inPositionAct_within (hs : Within s₀ s) : Within s₀ (inPositionAct s) := by
  simp only [inPositionAct]; (repeat' split) <;> simp [*]

@[simp] theorem headFaultAct_within : Within s₀ (headFaultAct s) ↔ Within s₀ s := by
  simp only [headFaultAct]; (repeat' split) <;> simp [*]

/-! ## The shot path -/

@[simp] theorem fireShot_within (ctx : EmitContext) (mirror head : Nat) (hs : Within s₀ s) : Within s₀ (s.fireShot ctx mirror head) := by
  simp only [State.fireShot, State.raiseEmit]; (repeat' split) <;> simp [*]

@[simp] theorem handleInstant_within (hs : Within s₀ s) : Within s₀ s.handleInstant.1 := by
  simp only [State.handleInstant, State.judgeInstant]; (repeat' split) <;> simp [*]

@[simp] theorem takeNotice_within (n : Option Interruption) (hs : Within s₀ s) : Within s₀ (s.takeNotice n) := by
  simp only [State.takeNotice, State.interrupt]; (repeat' split) <;> simp [*]

@[simp] theorem scheduledInstantAct_within (hs : Within s₀ s) : Within s₀ (scheduledInstantAct s) := by
  simp only [scheduledInstantAct]; (repeat' split) <;> simp [*]

@[simp] theorem firePulseEndAct_within : Within s₀ (firePulseEndAct s) ↔ Within s₀ s := by
  simp only [firePulseEndAct]; (repeat' split) <;> simp [*]

@[simp] theorem emitExpiryAct_within : Within s₀ (emitExpiryAct s) ↔ Within s₀ s := by
  simp only [emitExpiryAct]; (repeat' split) <;> simp [*]

@[simp] theorem completeSet_within (e : EchoSet) (hs : Within s₀ s) : Within s₀ (s.completeSet e) := by
  simp only [State.completeSet, takeRaisedHit]; (repeat' split) <;> simp [*]

@[simp] theorem takeTransfers_within (n : Nat) (hs : Within s₀ s) : Within s₀ (s.takeTransfers n) := by
  induction n generalizing s with
  | zero => exact hs
  | succ n ih =>
    unfold State.takeTransfers
    split
    · exact hs
    · exact ih (by simp [hs])

@[simp] theorem echoSetAct_within (header : Bool) (bytes : List Byte) (hs : Within s₀ s) : Within s₀ (echoSetAct header bytes s) := by
  simp [echoSetAct, hs]

/-! ## Photo steps -/

@[simp] theorem settleEndAct_within (hs : Within s₀ s) : Within s₀ (settleEndAct s) := by
  simp only [settleEndAct]; (repeat' split) <;> simp [*]

@[simp] theorem grantTimeoutAct_within (hs : Within s₀ s) : Within s₀ (grantTimeoutAct s) := by
  simp only [grantTimeoutAct]; (repeat' split) <;> simp [*]

@[simp] theorem cameraEndAct_within (camera : Nat) (hs : Within s₀ s) : Within s₀ (cameraEndAct camera s) := by
  simp only [cameraEndAct]; (repeat' split) <;> simp [*]

@[simp] theorem photoReleaseAct_within (hs : Within s₀ s) : Within s₀ (photoReleaseAct s) := by
  simp only [photoReleaseAct]; (repeat' split) <;> simp [*]

/-! ## Peers -/

/-- An entry is changed by a function that keeps its timers within their limits. -/
theorem updatePeer_within {n : Nat} {f : Peer → Peer} (hs : Within s₀ s) (hf : ∀ p, p.Bounded s.time → (f p).Bounded s.time) :
    Within s₀ (s.updatePeer n f) := by
  unfold State.updatePeer
  split
  · rename_i p hp
    exact setPeer_within hs fun h q hq => Option.some.inj hq ▸ hf p (h n p hp)
  · exact hs

@[simp] theorem hear_within (n : Nat) (spoken : Membership) (hs : Within s₀ s) : Within s₀ (s.hear n spoken) := by
  unfold State.hear
  split
  · rename_i p hp
    exact setPeer_within hs fun h q hq => by cases hq; exact ⟨(h n p hp).1, le_refl _⟩
  · refine (raise_within _).2 (setPeer_within hs fun _ q hq => ?_)
    cases hq
    exact ⟨(fun _ ht => nomatch ht), le_refl _⟩

@[simp] theorem setPeerHold_within (n : Nat) (on : Bool) (source : HoldSource) (hs : Within s₀ s) :
    Within s₀ (s.setPeerHold n on source) := by
  unfold State.setPeerHold
  split
  · split
    · exact hs
    · exact (raise_within _).2 (updatePeer_within hs fun _ h => h)
  · exact hs

theorem closedWindow_bounded {now : Nat} {p : Peer} (h : p.Bounded now) : Peer.Bounded now { p with window := none } :=
  ⟨(fun _ ht => nomatch ht), h.2⟩

@[simp] theorem closeWindow_within (n : Nat) (cause : CloseCause) (hs : Within s₀ s) : Within s₀ (s.closeWindow n cause) := by
  unfold State.closeWindow
  split
  · split
    · simpa using updatePeer_within hs fun _ => closedWindow_bounded
    · exact hs
  · exact hs

/-- A granted window lies at most 500 ms ahead (R154, R155). -/
theorem grantedWindow_bounded {now w : Nat} {p : Peer} (h : p.Bounded now) :
    Peer.Bounded now { p with window := some (now + ticksOfMs (grantedLength w)) } := by
  refine ⟨fun t ht => ?_, h.2⟩
  cases ht
  exact Nat.add_le_add_left (Nat.mul_le_mul_right _ (min_le_right w 500)) now

@[simp] theorem takeQuiet_within (n w : Nat) (hs : Within s₀ s) : Within s₀ (s.takeQuiet n w) := by
  unfold State.takeQuiet State.grantQuiet
  split
  · simp [hs]
  · split
    · simpa using updatePeer_within hs fun _ => grantedWindow_bounded
    · exact hs

@[simp] theorem takeBeacon_within (n : Nat) (firing hold listed : Bool) (hs : Within s₀ s) :
    Within s₀ (s.takeBeacon n firing hold listed) := by
  unfold State.takeBeacon
  exact beaconNotice_within _ _ _ (setPeerHold_within _ _ _ (updatePeer_within hs fun _ h => h))

@[simp] theorem removePeer_within (n : Nat) (cause : LossCause) (hs : Within s₀ s) : Within s₀ (s.removePeer n cause) := by
  unfold State.removePeer
  split
  · exact hs
  · refine removalNotice_within _ ((raise_within _).2 (setPeer_within (by simp [hs]) fun _ q hq => ?_))
    cases hq

@[simp] theorem duplicate_within (kind : FrameKind) (spoken : Membership) (hs : Within s₀ s) : Within s₀ (s.duplicate kind spoken) := by
  simp [State.duplicate, hs]

@[simp] theorem takeValid_within (station : Nat) (c : Contents) (hs : Within s₀ s) : Within s₀ (s.takeValid station c) := by
  simp only [State.takeValid, State.takeContents]; (repeat' split) <;> simp [*]

@[simp] theorem ageExpiryAct_within (station : Nat) (hs : Within s₀ s) : Within s₀ (ageExpiryAct station s) := by
  simp only [ageExpiryAct]; (repeat' split) <;> simp [*]

theorem becomeLive_within : Within s₀ s.becomeLive ↔ Within s₀ s := Iff.rfl

@[simp] theorem joinExpiryAct_within (hs : Within s₀ s) : Within s₀ (joinExpiryAct s) := by
  unfold joinExpiryAct State.tellLive
  (repeat' split) <;> simp [becomeLive_within, hs]

@[simp] theorem windowExpiryAct_within (station : Nat) (hs : Within s₀ s) : Within s₀ (windowExpiryAct station s) := by
  simp only [windowExpiryAct]; (repeat' split) <;> simp [*]

/-! ## The site line -/

@[simp] theorem accessExpiryAct_within : Within s₀ (accessExpiryAct s) ↔ Within s₀ s := by
  simp only [accessExpiryAct]; (repeat' split) <;> simp [*]

@[simp] theorem sendingEndAct_within (hs : Within s₀ s) : Within s₀ (sendingEndAct s) := by
  simp only [sendingEndAct, State.endSending, State.sentNotice]; (repeat' split) <;> simp [*]

@[simp] theorem carrierRiseAct_within : Within s₀ (carrierRiseAct s) ↔ Within s₀ s := by
  simp only [carrierRiseAct]; (repeat' split) <;> simp [*]

@[simp] theorem carrierFallAct_within : Within s₀ (carrierFallAct s) ↔ Within s₀ s := by
  simp only [carrierFallAct]; (repeat' split) <;> simp [*]

@[simp] theorem jamExpiryAct_within : Within s₀ (jamExpiryAct s) ↔ Within s₀ s := by
  simp only [jamExpiryAct]; (repeat' split) <;> simp [*]

@[simp] theorem beaconExpiryAct_within : Within s₀ (beaconExpiryAct s) ↔ Within s₀ s := by
  simp only [beaconExpiryAct]; (repeat' split) <;> simp [*]

@[simp] theorem leaveExpiryAct_within : Within s₀ (leaveExpiryAct s) ↔ Within s₀ s := by
  simp only [leaveExpiryAct]; (repeat' split) <;> simp [*]

@[simp] theorem completeFrame_within (station kind : Byte) (payload : List Byte) (check : Word16) (hs : Within s₀ s) : Within s₀ (s.completeFrame station kind payload check) := by
  simp only [State.completeFrame, State.takeJudged]; (repeat' split) <;> simp [*]

@[simp] theorem siteByteAct_within (byte : Byte) (stopBitOk : Bool) (hs : Within s₀ s) : Within s₀ (siteByteAct byte stopBitOk s) := by
  simp only [siteByteAct, State.goodByte, State.huntByte, State.headerBytes, State.bodyBytes]; (repeat' split) <;> simp [*]

@[simp] theorem byteGapAct_within : Within s₀ (byteGapAct s) ↔ Within s₀ s := by
  simp only [byteGapAct]; (repeat' split) <;> simp [*]

@[simp] theorem siteFrameAct_within (station kind : Byte) (payload : List Byte) (check : Word16) (hs : Within s₀ s) : Within s₀ (siteFrameAct station kind payload check s) := by
  simp only [siteFrameAct, State.wholeFrame]; (repeat' split) <;> simp [*]

/-! ## Report port, store and resets -/

@[simp] theorem reportWordAct_within (hs : Within s₀ s) : Within s₀ (reportWordAct s) := by
  simp only [reportWordAct, State.depart, State.freeEntry, State.admitReply, State.admitWalker, State.admitPhoto]; (repeat' split) <;> simp [*]

@[simp] theorem setTable_within (code : Nat) (v : List Int) (hs : Within s₀ s) : Within s₀ (s.setTable code v) := by
  unfold State.setTable
  split <;> simp [hs]

@[simp] theorem loadTable_within (row : Nat) (hs : Within s₀ s) : Within s₀ (s.loadTable row) := by
  simp only [State.loadTable]; (repeat' split) <;> simp [*]

/-- A reset empties the open-shot list, the catalogue and the peer table. -/
theorem resetPart_within (cause : ResetCause) (row : Option Nat) (levels : InputLevels) :
    Within s₀ (s.resetPart cause row levels) := by
  obtain ⟨k, hrest, _⟩ := State.resetPart_rest cause row levels s
  generalize s.resetPart cause row levels = t at hrest
  have hshots : t.rgu.openShots = [] := congrArg (fun r => r.rgu.openShots) hrest
  have hcatalogue : t.phc.catalogue = [] := congrArg (fun r => r.phc.catalogue) hrest
  have htime : t.time = 0 := congrArg State.time hrest
  have hpeers : t.pru = Pru.reset := congrArg State.pru hrest
  exact ⟨fun _ => by simp [Rgu.Sound, hshots], fun _ => by simp [Phc.Sound, hcatalogue],
    fun _ => hpeers ▸ reset_bounded t.time, fun _ => by simp [State.TimeSound, htime]⟩

theorem powerOnAct_within (levels : InputLevels) : Within s₀ (powerOnAct levels s) :=
  (withCmu_within _).2 (resetPart_within _ _ _)

theorem resetLineAct_within (levels : InputLevels) : Within s₀ (resetLineAct levels s) :=
  (withCmu_within _).2 (resetPart_within _ _ _)

theorem powerLossAct_within : Within s₀ (powerLossAct s) :=
  ⟨fun _ => Nat.zero_le _, fun _ => Nat.zero_le _, fun _ => reset_bounded _, fun _ => Nat.zero_le _⟩

@[simp] theorem writeCompletionAct_within : Within s₀ (writeCompletionAct s) ↔ Within s₀ s := by
  simp only [writeCompletionAct]; (repeat' split) <;> simp [*]

/-! ## The command lane -/

@[simp] theorem configureAct_within (entries : List SettingEntry) : Within s₀ (configureAct entries s) ↔ Within s₀ s := by
  simp only [configureAct, State.configured, State.judgeThresholds]; (repeat' split) <;> simp [*]

@[simp] theorem loadTableAct_within (code : Byte) (contents : List Byte) (hs : Within s₀ s) : Within s₀ (loadTableAct code contents s) := by
  simp only [loadTableAct]; (repeat' split) <;> simp [*]

@[simp] theorem readTableAct_within (code : Byte) : Within s₀ (readTableAct code s) ↔ Within s₀ s := by
  simp only [readTableAct]; (repeat' split) <;> simp [*]

@[simp] theorem calStoreAct_within (row : Byte) : Within s₀ (calStoreAct row s) ↔ Within s₀ s := by
  simp only [calStoreAct]; (repeat' split) <;> simp [*]

@[simp] theorem calReloadAct_within (row : Byte) (hs : Within s₀ s) : Within s₀ (calReloadAct row s) := by
  simp only [calReloadAct, State.reload]; (repeat' split) <;> simp [*]

@[simp] theorem planWriteAct_within (start : Byte) (records : List (List Byte)) : Within s₀ (planWriteAct start records s) ↔ Within s₀ s := by
  simp only [planWriteAct]; (repeat' split) <;> simp [*]

@[simp] theorem planReadAct_within (start count : Byte) : Within s₀ (planReadAct start count s) ↔ Within s₀ s := by
  simp only [planReadAct]; (repeat' split) <;> simp [*]

@[simp] theorem joinLine_within : Within s₀ s.joinLine ↔ Within s₀ s := by
  simp only [State.joinLine]; (repeat' split) <;> simp [*]

@[simp] theorem beginRun_within (index : Nat) (hs : Within s₀ s) : Within s₀ (s.beginRun index) := by
  unfold State.beginRun
  exact joinLine_within.2 hs

@[simp] theorem startAct_within (index : Byte) (hs : Within s₀ s) : Within s₀ (startAct index s) := by
  simp only [startAct]; (repeat' split) <;> simp [*]

@[simp] theorem stopAct_within (hs : Within s₀ s) : Within s₀ (stopAct s) := by
  simp only [stopAct]; (repeat' split) <;> simp [*]

@[simp] theorem pauseAct_within : Within s₀ (pauseAct s) ↔ Within s₀ s := by
  simp only [pauseAct]; (repeat' split) <;> simp [*]

@[simp] theorem continueAct_within (hs : Within s₀ s) : Within s₀ (continueAct s) := by
  simp only [continueAct, State.continueWalker, State.endHalt, State.endPause]; (repeat' split) <;> simp [*]

@[simp] theorem statusAct_within : Within s₀ (statusAct s) ↔ Within s₀ s := by
  simp [statusAct]

@[simp] theorem peersAct_within : Within s₀ (peersAct s) ↔ Within s₀ s := by
  simp [peersAct]

@[simp] theorem photosAct_within : Within s₀ (photosAct s) ↔ Within s₀ s := by
  simp [photosAct]

@[simp] theorem frameEnded_within : Within s₀ s.frameEnded ↔ Within s₀ s := Iff.rfl

@[simp] theorem dropLane_within (n : Nat) : Within s₀ (s.dropLane n) ↔ Within s₀ s := Iff.rfl

theorem commandAct_within (c : Instr) (hs : Within s₀ s) : Within s₀ (commandAct c s) := by
  cases c with
  | configure entries => exact (configureAct_within entries).2 hs
  | loadTable code contents => exact loadTableAct_within code contents hs
  | readTable code => exact (readTableAct_within code).2 hs
  | calStore row => exact (calStoreAct_within row).2 hs
  | calReload row => exact calReloadAct_within row hs
  | planWrite start records => exact (planWriteAct_within start records).2 hs
  | planRead start count => exact (planReadAct_within start count).2 hs
  | start index => exact startAct_within index hs
  | stop => exact stopAct_within hs
  | pause => exact pauseAct_within.2 hs
  | continueRun => exact continueAct_within hs
  | status => exact statusAct_within.2 hs
  | peers => exact peersAct_within.2 hs
  | photos => exact photosAct_within.2 hs
  | reset levels => exact (sendReply_within _).2 (resetPart_within _ _ _)
  | _ => exact hs

theorem laneFrame_within {frame : List Byte} {f : State → State} (hs : Within s₀ s)
    (hf : ∀ t, Within s₀ t → Within s₀ (f t)) : Within s₀ (s.laneFrame frame f) := by
  unfold State.laneFrame
  split
  · exact hf _ hs
  · split <;> exact hs

theorem commandFrame_within (c : Instr) (hs : Within s₀ s) : Within s₀ (State.commandFrame c (commandAct c) s) := by
  refine laneFrame_within hs fun t ht => ?_
  split
  · exact commandAct_within c ht
  · exact (sendReply_within _).2 ht

theorem receiveBytes_within (bytes : List Byte) (hs : Within s₀ s) : Within s₀ (s.receiveBytes bytes) := by
  unfold State.receiveBytes State.runFrame
  split
  · split
    · refine commandAct_within _ ?_
      unfold State.drawnFor
      split <;> exact hs
    · exact (sendReply_within _).2 hs
  · exact hs

theorem laneByteAct_within (byte : Byte) (hs : Within s₀ s) : Within s₀ (laneByteAct byte s) := by
  unfold laneByteAct
  split
  · exact receiveBytes_within _ hs
  · split
    · exact receiveBytes_within _ hs
    · exact hs

theorem laneDropAct_within (hs : Within s₀ s) : Within s₀ (laneDropAct s) := by
  unfold laneDropAct
  split <;> exact hs

theorem laneGapAct_within (hs : Within s₀ s) : Within s₀ (laneGapAct s) := by
  unfold laneGapAct
  (repeat' split) <;> simp [hs]

theorem badFrameAct_within (frame : List Byte) (hs : Within s₀ s) : Within s₀ (badFrameAct frame s) := by
  unfold badFrameAct
  split
  · exact laneFrame_within hs fun t ht => (sendReply_within _).2 ht
  · exact hs

end

/-! ## Every command -/

theorem effect_within {c : Instr} (hc : c ≠ .localTimeLimit) {s₀ s : State} (hs : Within s₀ s) : Within s₀ (effect c s) := by
  cases c with
  | powerOn levels => exact powerOnAct_within levels
  | resetLine levels => exact resetLineAct_within levels
  | encoderEdge enc a b => exact encoderEdgeAct_within enc a b hs
  | encoderIndex => exact encoderIndexAct_within _ _ hs
  | absenceTimerExpiry => exact absenceAct_within.2 hs
  | localTimeLimit => exact absurd rfl hc
  | scheduledInstant => exact scheduledInstantAct_within hs
  | firePulseEnd => exact firePulseEndAct_within.2 hs
  | emitExpiry => exact emitExpiryAct_within.2 hs
  | echoSet => exact echoSetAct_within _ _ hs
  | finishReport => exact finishReportAct_within hs
  | attemptLimitExpiry => exact attemptLimitAct_within hs
  | inPositionRise => exact inPositionAct_within hs
  | headFaultTimerExpiry => exact headFaultAct_within.2 hs
  | settleEnd => exact settleEndAct_within hs
  | grantTimeout => exact grantTimeoutAct_within hs
  | cameraExposureEnd => exact cameraEndAct_within _ hs
  | photoRelease => exact photoReleaseAct_within hs
  | carrierSenseRise => exact carrierRiseAct_within.2 hs
  | carrierSenseFall => exact carrierFallAct_within.2 hs
  | accessTimerExpiry => exact accessExpiryAct_within.2 hs
  | sendingEnd => exact sendingEndAct_within hs
  | jamTimerExpiry => exact jamExpiryAct_within.2 hs
  | beaconTimerExpiry => exact beaconExpiryAct_within.2 hs
  | leaveTimerExpiry => exact leaveExpiryAct_within.2 hs
  | siteFrameReceived => exact siteFrameAct_within _ _ _ _ hs
  | byteGapExpiry => exact byteGapAct_within.2 hs
  | ageTimerExpiry => exact ageExpiryAct_within _ hs
  | joinTimerExpiry => exact joinExpiryAct_within hs
  | quietWindowExpiry => exact windowExpiryAct_within _ hs
  | reportWordTaken => exact reportWordAct_within hs
  | laneByteDropped => exact laneDropAct_within hs
  | laneGapExpiry => exact laneGapAct_within hs
  | badFrame => exact badFrameAct_within _ hs
  | writeCompletion => exact writeCompletionAct_within.2 hs
  | siteByteReceived => exact siteByteAct_within _ _ hs
  | laneByteReceived => exact laneByteAct_within _ hs
  | powerLoss => exact powerLossAct_within
  | configure | loadTable | readTable | calStore | calReload | planWrite | planRead | start | stop | pause | continueRun
  | status | peers | photos | reset => exact commandFrame_within _ hs

/-- The report stream's bounds, by the law of each command's effect. -/
theorem effect_sound (c : Instr) {s : State} (hs : s.ReportSound) : (effect c s).ReportSound := by
  cases c with
  | powerOn levels => exact powerOnAct_sound levels s
  | resetLine levels => exact resetLineAct_sound levels s
  | encoderEdge => exact encoderEdgeAct_sound _ _ _ s hs
  | encoderIndex => exact encoderIndexAct_sound _ _ s hs
  | absenceTimerExpiry => exact absenceAct_sound s hs
  | localTimeLimit => exact localTimeLimitAct_sound s hs
  | scheduledInstant => exact scheduledInstantAct_sound s hs
  | firePulseEnd => exact firePulseEndAct_sound s hs
  | emitExpiry => exact emitExpiryAct_sound s hs
  | echoSet => exact echoSetAct_sound _ _ s hs
  | finishReport => exact finishReportAct_sound s hs
  | attemptLimitExpiry => exact attemptLimitAct_sound s hs
  | inPositionRise => exact inPositionAct_sound s hs
  | headFaultTimerExpiry => exact headFaultAct_sound s hs
  | settleEnd => exact settleEndAct_sound s hs
  | grantTimeout => exact grantTimeoutAct_sound s hs
  | cameraExposureEnd => exact cameraEndAct_sound _ s hs
  | photoRelease => exact photoReleaseAct_sound s hs
  | carrierSenseRise => exact carrierRiseAct_sound s hs
  | carrierSenseFall => exact carrierFallAct_sound s hs
  | accessTimerExpiry => exact accessExpiryAct_sound s hs
  | sendingEnd => exact sendingEndAct_sound s hs
  | jamTimerExpiry => exact jamExpiryAct_sound s hs
  | beaconTimerExpiry => exact beaconExpiryAct_sound s hs
  | leaveTimerExpiry => exact leaveExpiryAct_sound s hs
  | siteFrameReceived => exact siteFrameAct_sound _ _ _ _ s hs
  | byteGapExpiry => exact byteGapAct_sound s hs
  | ageTimerExpiry => exact ageExpiryAct_sound _ s hs
  | joinTimerExpiry => exact joinExpiryAct_sound s hs
  | quietWindowExpiry => exact windowExpiryAct_sound _ s hs
  | reportWordTaken => exact reportWordAct_sound s hs
  | laneByteDropped => exact laneDropAct_sound s hs
  | laneGapExpiry => exact laneGapAct_sound s hs
  | badFrame => exact badFrameAct_sound _ s hs
  | writeCompletion => exact writeCompletionAct_sound s hs
  | siteByteReceived => exact siteByteAct_sound _ _ s hs
  | laneByteReceived => exact laneByteAct_sound _ s hs
  | powerLoss => exact powerLossAct_sound s
  | configure | loadTable | readTable | calStore | calReload | planWrite | planRead | start | stop | pause | continueRun
  | status | peers | photos | reset => exact State.commandFrame_sound _ _ s hs (commandAct_sound _)

/-! ## A step -/

/-- As local time goes on, a peer's timers lie no further ahead. -/
theorem bounded_later {x : Pru} {now later : Nat} (h : x.Bounded now) (hle : now ≤ later) : x.Bounded later := by
  intro n p hp
  obtain ⟨hwindow, hage⟩ := h n p hp
  exact ⟨fun t ht => (hwindow t ht).trans (Nat.add_le_add_right hle _), hage.trans (Nat.add_le_add_right hle _)⟩

/-- What a step keeps of its start s in its outcome t: the conclusion of O59. -/
def Keeps (s t : State) : Prop :=
  (s.ReportSound → t.ReportSound) ∧ (s.TimeSound → t.TimeSound) ∧ (s.rgu.Sound → t.rgu.Sound) ∧
    (s.phc.Sound → t.phc.Sound) ∧ (s.TimeSound → s.pru.Bounded s.time → t.pru.Bounded t.time)

theorem keeps_self (s : State) : Keeps s s := ⟨id, id, id, id, fun _ => id⟩

/-- Local time set to a later one within its limit keeps every bound. -/
theorem withTime_keeps {s : State} {n : Nat} (hlater : s.TimeSound → s.time ≤ n) (hlimit : n ≤ timeLimit) :
    Keeps s (s.withTime n) :=
  ⟨id, fun _ => hlimit, id, id, fun htime h => bounded_later h (hlater htime)⟩

theorem tick_keeps (s : State) : Keeps s s.tick := by
  unfold State.tick
  split
  · exact withTime_keeps (fun _ => Nat.le_succ _) (by omega)
  · exact withTime_keeps id le_rfl

theorem localTimeLimitAct_keeps (s : State) : Keeps s (localTimeLimitAct s) := by
  unfold localTimeLimitAct
  split
  · exact withTime_keeps id le_rfl
  · exact keeps_self s

theorem effect_keeps (c : Instr) (s : State) : Keeps s (effect c s) := by
  by_cases hc : c = .localTimeLimit
  · subst hc
    exact localTimeLimitAct_keeps s
  · obtain ⟨hshots, hcatalogue, hpeers, htime⟩ := effect_within hc (Within.refl s)
    exact ⟨effect_sound c, htime, hshots, hcatalogue, fun _ => hpeers⟩

/-- Settles O59: an empty queue's step is a tick; any other is the effect of the front command, or none. -/
theorem reportBoundsKept : Obligations.ReportBoundsKept := by
  intro s t h
  unfold step at h
  split at h
  · cases h
    unfold State.idle
    split
    · exact tick_keeps s
    · exact keeps_self s
  · rename_i c rest _
    obtain rfl | rfl := exec_outcome h
    · exact keeps_self s
    · exact effect_keeps c (s.withPending rest)

/-- Settles O60: two records stand in the queue, and every other bounded list is empty. -/
theorem reportBoundsAtReset : Obligations.ReportBoundsAtReset := by
  have hevents : eventsInForm State.reset.rps.events := ⟨List.Pairwise.nil, fun _ h => nomatch h⟩
  have hrps : State.reset.rps.Sound := ⟨by decide, by decide, hevents⟩
  exact ⟨⟨hrps, fun _ h => nomatch h⟩, Nat.zero_le _, Nat.zero_le _, Nat.zero_le _, reset_bounded _⟩

end Sys2Proof.Proofs.Bounds

/-! The step and local time (O1, O2), the part without supply (O5), and the Angle Unit: edges, indexes, the mirror monitor and
the angle at an instant (O6 to O8, O10). -/

namespace Sys2Proof.Proofs.Encoders

open Sys2Proof.Machine Sys2Proof.Proofs.Effects

/-! ## The step, local time and supply -/

/-- Settles O1. -/
theorem stepRunsFrontCommand : Obligations.StepRunsFrontCommand := by
  intro s c rest hpending
  simp only [step, hpending]

theorem step_idle {s : State} (hpending : s.pending = []) : step s = .next s.idle := by
  simp only [step, hpending]

theorem idle_powered {s : State} (hp : s.powered = true) : s.idle = s.tick := if_pos hp

/-- Settles O2: an empty queue's step is a tick, which stops at the limit, as LOCAL_TIME_LIMIT does. -/
theorem localTimeCounts : Obligations.LocalTimeCounts := by
  have hlimit : timeLimit = 2 ^ 48 - 1 := rfl
  refine ⟨fun s hpending => ?_, fun s hp => ⟨fun hnear => ?_, fun hfar => ?_⟩⟩
  · rw [step_idle hpending]
    refine ⟨fun hp => ?_, fun hp hlt => ?_, fun hp heq => ?_⟩
    · simp [State.idle, hp]
    · rw [idle_powered hp, State.tick, if_pos (by omega)]
    · rw [idle_powered hp, State.tick, if_neg (by omega), hlimit, ← heq, State.withTime_self]
  · exact exec_next hp (if_pos (by omega))
  · exact exec_next hp (if_neg (by omega))

/-- Settles O5: POWER_LOSS leaves the reset values without supply, and such a part takes POWER_ON alone. -/
theorem powerLossStopsPart : Obligations.PowerLossStopsPart := by
  refine ⟨fun s hp => ⟨powerLossAct s, exec_next hp rfl, ?_⟩, fun s c hp hc => exec_unpowered hp hc⟩
  exact ⟨rfl, rfl, rfl, rfl, rfl, rfl, rfl, rfl, rfl, rfl, rfl⟩

/-! ## Edges and indexes -/

theorem encoderEdge_next {enc : Encoder} {a b : Bool} {s : State} {e : EncoderState} (hp : s.powered = true)
    (h : (s.anu.encoder enc).accept (s.cmu.settings.exponent enc) s.time a b = e) :
    exec (.encoderEdge enc a b) s = .next (s.withAnu (s.anu.setEncoder enc e)) :=
  exec_next hp (by rw [← h]; rfl)

/-- The filter's guard as the statements spell it (log entry 13). -/
theorem tooSoon_eq_false {e : EncoderState} {now : Nat}
    (h : ∀ t0, e.acceptTime = some t0 → t0 + 4 ≤ now ∨ now = 2 ^ 48 - 1) : e.tooSoon now = false := by
  unfold EncoderState.tooSoon
  split
  · rename_i t ht
    have hspaced := h t ht
    refine decide_eq_false fun hsoon => ?_
    unfold timeLimit at hsoon
    omega
  · rfl

theorem tooSoon_eq_true {e : EncoderState} {now t0 : Nat} (h : e.acceptTime = some t0) (hsoon : now < t0 + 4)
    (hrun : now < 2 ^ 48 - 1) : e.tooSoon now = true := by
  simp only [EncoderState.tooSoon, h]
  exact decide_eq_true ⟨hsoon, hrun⟩

/-- The pairs of R2's sequence, each with the pair after it. -/
theorem nextPair_iff (a b a' b' : Bool) : nextPair a b = (a', b') ↔
    (a, b, a', b') ∈ [(false, false, true, false), (true, false, true, true), (true, true, false, true),
      (false, true, false, false)] := by
  cases a <;> cases b <;> cases a' <;> cases b' <;> decide

theorem setEncoder_self (x : Anu) (enc : Encoder) : x.setEncoder enc (x.encoder enc) = x := by cases enc <;> rfl

theorem accept_step {e : EncoderState} {exponent now : Nat} {a b : Bool} (hsoon : e.tooSoon now = false)
    (hone : (a ≠ e.a ∧ b = e.b) ∨ (a = e.a ∧ b ≠ e.b)) : e.accept exponent now a b = e.step exponent now a b := by
  have hsame : ¬((a, b) = (e.a, e.b) ∨ e.tooSoon now = true) := by
    rw [Prod.mk.injEq, hsoon]
    rintro (⟨ha, hb⟩ | h)
    · exact hone.elim (fun h => h.1 ha) (fun h => h.2 hb)
    · cases h
  have hboth : ¬(a ≠ e.a ∧ b ≠ e.b) := by
    rintro ⟨ha, hb⟩
    exact hone.elim (fun h => hb h.2) (fun h => ha h.1)
  rw [EncoderState.accept, if_neg hsame, if_neg hboth]

/-- Settles O6. -/
theorem quadratureStep : Obligations.QuadratureStep := by
  intro s enc a b hp hone hspaced
  refine encoderEdge_next hp ((accept_step (tooSoon_eq_false hspaced) hone).trans ?_)
  simp only [EncoderState.step, nextPair_iff]
  rfl

theorem accept_both {e : EncoderState} {exponent now : Nat} {a b : Bool} (hsoon : e.tooSoon now = false) (ha : a ≠ e.a)
    (hb : b ≠ e.b) :
    e.accept exponent now a b = { e with a := a, b := b, edgesSeen := .zero, acceptTime := some now } := by
  have hsame : ¬((a, b) = (e.a, e.b) ∨ e.tooSoon now = true) := by simp [hsoon, ha]
  rw [EncoderState.accept, if_neg hsame, if_pos ⟨ha, hb⟩]

theorem accept_none {e : EncoderState} {exponent now : Nat} {a b : Bool}
    (h : (a, b) = (e.a, e.b) ∨ e.tooSoon now = true) : e.accept exponent now a b = e := if_pos h

theorem encoderEdge_same {enc : Encoder} {a b : Bool} {s : State} (hp : s.powered = true)
    (h : (a, b) = ((s.anu.encoder enc).a, (s.anu.encoder enc).b) ∨ (s.anu.encoder enc).tooSoon s.time = true) :
    exec (.encoderEdge enc a b) s = .next s := by
  rw [encoderEdge_next hp (accept_none h), setEncoder_self]
  rfl

theorem encoderIndex_noRise {enc : Encoder} {level : Bool} {s : State}
    (h : level = false ∨ (s.anu.encoder enc).indexLevel = true) :
    encoderIndexAct enc level s =
      s.withAnu (s.anu.setEncoder enc { s.anu.encoder enc with indexLevel := level }) := by
  refine if_neg fun hrise => ?_
  rcases h with h | h
  · exact Bool.noConfusion (h.symm.trans hrise.1)
  · exact Bool.noConfusion (h.symm.trans hrise.2)

/-- Settles O7. -/
theorem edgesAndIndexes : Obligations.EdgesAndIndexes := by
  refine ⟨fun s enc a b hp => ⟨fun ha hb hspaced => ?_, fun ha hb => ?_, fun hsoon => ?_⟩, fun s hp => ⟨fun hlow => ?_, ?_⟩⟩
  · exact encoderEdge_next hp (accept_both (tooSoon_eq_false hspaced) ha hb)
  · exact encoderEdge_same hp (.inl (by rw [ha, hb]))
  · obtain ⟨t0, htime, hlt, hrun⟩ := hsoon
    exact encoderEdge_same hp (.inr (tooSoon_eq_true htime hlt hrun))
  · exact exec_next hp (if_pos ⟨rfl, hlow⟩)
  · exact fun enc level h => exec_next hp (encoderIndex_noRise h)

/-! ## The mirror monitor -/

/-- A walker that neither waits for a line nor is in one takes no part in an index (R104, R106). -/
theorem walkerIndex_other {s : State} (hwait : s.pwk.state ≠ .lineWait) (hline : s.pwk.state ≠ .line) : s.walkerIndex = s := by
  unfold State.walkerIndex
  split
  · contradiction
  · contradiction
  · rfl

/-- The mirror's encoder once its index is taken (R4). -/
def indexed (e : EncoderState) : EncoderState :=
  { e with indexLevel := true, count := if e.lastDirection = .forward then 0 else e.count, edgesSeen := .zero }

/-- ANU after a mirror index, and the event it gives (R14). -/
def mirrorJudged (s : State) : Anu × Option Event :=
  Anu.monitorIndex s.cmu.settings s.time { s.anu with mirror := indexed s.anu.mirror }

/-- ANU with a mirror index recorded. -/
def recorded (s : State) : Anu := { s.anu with mirror := indexed s.anu.mirror, previousIndex := some s.time }

/-- A rise of the mirror's index is judged, its event raised, and handed to the walker. -/
theorem mirrorIndex_eq {s : State} (hlow : s.anu.mirror.indexLevel = false) :
    effect (.encoderIndex .mirror true) s =
      ((s.withAnu (mirrorJudged s).1).raiseOption (mirrorJudged s).2).walkerIndex := if_pos ⟨rfl, hlow⟩

/-- The report stream after an event that ANU may raise, while it is free. -/
def afterIndex (s : State) : Option Event → Rps
  | some e => if s.cmu.device = .running then s.rps.plusEvent s.cmu.settings s.time e else s.rps
  | none => s.rps

theorem raiseOption_free {s : State} (hfree : s.FreeReport 1) (x : Anu) (e : Option Event) :
    (s.withAnu x).raiseOption e = (s.withAnu x).withRps (afterIndex s e) := by
  cases e with
  | none => rfl
  | some e =>
    by_cases hrun : s.cmu.device = .running
    · rw [afterIndex, if_pos hrun]
      exact (if_pos hrun).trans (State.raise_free (k := 0) (s := s.withAnu x) e hfree)
    · rw [afterIndex, if_neg hrun]
      exact if_neg hrun

theorem judgePeriod_none {c : Settings} {period : Nat} (h : c.periodLow * 100 ≤ period ∧ period ≤ c.periodHigh * 100) :
    judgePeriod c period = none := by
  rw [judgePeriod, if_neg (by omega), if_neg (by omega)]

theorem judgePeriod_some {c : Settings} {period : Nat} (h : period < c.periodLow * 100 ∨ c.periodHigh * 100 < period) :
    judgePeriod c period = some (if period < c.periodLow * 100 then .short else .long) := by
  unfold judgePeriod
  split
  · rfl
  · rw [if_pos (h.resolve_left ‹_›)]

section
variable {x : Anu} {c : Settings} {now period : Nat}

theorem judge_ok_inRange (hm : x.monitor = .ok) (hj : judgePeriod c period = none) :
    x.judge c now period = ({ x with absence := some (now + c.absenceTicks) }, none) := by
  simp [Anu.judge, hm, hj]

theorem judge_ok_out {cause : MirrorCause} (hm : x.monitor = .ok) (hj : judgePeriod c period = some cause) :
    x.judge c now period = ({ x with monitor := .fault, absence := none, inRangeRun := 0 },
      some (.mirrorFault cause (some (period / 100)))) := by
  simp [Anu.judge, hm, hj]

theorem judge_counting (hm : x.monitor ≠ .ok) (hj : judgePeriod c period = none) (hrun : x.inRangeRun < 2) :
    x.judge c now period = ({ x with inRangeRun := x.inRangeRun + 1 }, none) := by
  cases hmon : x.monitor with
  | ok => exact absurd hmon hm
  | spinup | fault => simp [Anu.judge, hmon, hj, hrun]

theorem judge_recovers (hm : x.monitor ≠ .ok) (hj : judgePeriod c period = none) (hrun : 2 ≤ x.inRangeRun) :
    x.judge c now period = ({ x with monitor := .ok, inRangeRun := 0, absence := some (now + c.absenceTicks) },
      if x.monitor = .fault then some (.mirrorOk (period / 100)) else none) := by
  have hthird : ¬x.inRangeRun + 1 < 3 := by omega
  cases hmon : x.monitor with
  | ok => exact absurd hmon hm
  | spinup | fault => simp only [Anu.judge, hmon, hj, hthird, if_true, if_false, reduceCtorEq]

theorem judge_notOk_out {cause : MirrorCause} (hm : x.monitor ≠ .ok) (hj : judgePeriod c period = some cause) :
    x.judge c now period = ({ x with inRangeRun := 0 }, none) := by
  cases hmon : x.monitor with
  | ok => exact absurd hmon hm
  | spinup | fault => simp [Anu.judge, hmon, hj]

/-- A judgement moves the monitor, its run and its timer alone. -/
theorem judge_kept (period : Nat) : (x.judge c now period).1 =
    { x with
      monitor := (x.judge c now period).1.monitor
      inRangeRun := (x.judge c now period).1.inRangeRun
      absence := (x.judge c now period).1.absence } := by
  unfold Anu.judge
  (repeat' split) <;> rfl

end

theorem absenceTicks_eq (c : Settings) (now : Nat) : now + c.absenceTicks = now + 200 * c.periodHigh := by
  simp only [Settings.absenceTicks, ticksOfUs]
  omega

/-- The first index after a reset is recorded and judges nothing (R14). -/
theorem mirrorJudged_first {s : State} (h : s.anu.previousIndex = none) :
    mirrorJudged s = (recorded s, none) := by
  simp only [mirrorJudged, Anu.monitorIndex, h, recorded]

/-- A later index judges the period since the one before (R14). -/
theorem mirrorJudged_later {s : State} {p : Nat} (h : s.anu.previousIndex = some p) :
    mirrorJudged s = (recorded s).judge s.cmu.settings s.time (s.time - p) := by
  simp only [mirrorJudged, Anu.monitorIndex, h, recorded]

/-- An index records its time and takes the mirror's count; the head's encoder is not touched. -/
theorem mirrorJudged_kept (s : State) : (mirrorJudged s).1.head = s.anu.head ∧
    (mirrorJudged s).1.previousIndex = some s.time ∧ (mirrorJudged s).1.mirror = indexed s.anu.mirror := by
  cases hprev : s.anu.previousIndex with
  | none =>
    rw [mirrorJudged_first hprev]
    exact ⟨rfl, rfl, rfl⟩
  | some p =>
    rw [mirrorJudged_later hprev, judge_kept]
    exact ⟨rfl, rfl, rfl⟩

/-- Settles O8: the index is judged by the state of the monitor and the period's place in the limits. -/
theorem mirrorPeriodJudged : Obligations.MirrorPeriodJudged := by
  intro s hp hlow hwait hline hfree
  have hnext : effect (.encoderIndex .mirror true) s =
      (s.withAnu (mirrorJudged s).1).withRps (afterIndex s (mirrorJudged s).2) := by
    rw [mirrorIndex_eq hlow, raiseOption_free hfree]
    exact walkerIndex_other hwait hline
  obtain ⟨hhead, hprevious, hmirror⟩ := mirrorJudged_kept s
  refine ⟨_, exec_next hp hnext, rfl, hhead, hprevious, hmirror, fun hfirst => ?_, fun p hprev => ⟨fun hin => ?_, fun hout => ?_⟩⟩
  · rw [mirrorJudged_first hfirst]
    exact ⟨rfl, rfl, rfl, rfl⟩
  · have hj := judgePeriod_none hin
    rw [mirrorJudged_later hprev]
    refine ⟨fun hm => ?_, fun hm hrun => ?_, fun hm hrun => ?_⟩
    · rw [judge_ok_inRange (x := recorded s) hm hj, absenceTicks_eq]
      exact ⟨hm, rfl, rfl, rfl⟩
    · rw [judge_counting (x := recorded s) hm hj hrun]
      exact ⟨rfl, rfl, rfl, rfl⟩
    · rw [judge_recovers (x := recorded s) hm hj hrun, absenceTicks_eq]
      refine ⟨rfl, rfl, rfl, ?_⟩
      by_cases hfault : s.anu.monitor = .fault
      · simp [recorded, hfault, afterIndex]
      · simp [recorded, hfault, afterIndex]
  · have hj := judgePeriod_some hout
    rw [mirrorJudged_later hprev]
    by_cases hm : s.anu.monitor = .ok
    · rw [judge_ok_out (x := recorded s) hm hj]
      exact ⟨rfl, fun h => absurd hm h, fun _ => ⟨rfl, rfl, rfl⟩⟩
    · rw [judge_notOk_out (x := recorded s) hm hj]
      exact ⟨rfl, fun _ => ⟨rfl, rfl, rfl⟩, fun h => absurd h hm⟩

/-! ## The angle at an instant -/

/-- A count at or past the sum of a list's spans passes the list (R8). -/
theorem correctionAt_past {before rest : List CorrectionSegment} {count : Nat} (h : (before.map (·.span)).sum ≤ count) :
    correctionAt (before ++ rest) count = correctionAt rest (count - (before.map (·.span)).sum) := by
  induction before generalizing count with
  | nil => simp
  | cons g gs ih =>
    simp only [List.map_cons, List.sum_cons] at h ⊢
    have hpast : ¬count < g.span := by omega
    rw [List.cons_append, correctionAt, if_neg hpast, ih (by omega), Nat.sub_sub]

theorem correctionAt_beyond {segments : List CorrectionSegment} {count : Nat}
    (h : (segments.map (·.span)).sum ≤ count) : correctionAt segments count = 0 := by
  rw [← List.append_nil segments, correctionAt_past h, correctionAt]

theorem correctionAt_selects {before later : List CorrectionSegment} {g : CorrectionSegment} {count : Nat}
    (hpast : (before.map (·.span)).sum ≤ count) (hin : count < (before.map (·.span)).sum + g.span) :
    correctionAt (before ++ g :: later) count = g.correction := by
  rw [correctionAt_past hpast, correctionAt, if_pos (by omega)]

theorem interpolation_lt {e : EncoderState} {span now : Nat} (hspan : 0 < span) : e.interpolation span now < span := by
  unfold EncoderState.interpolation
  split <;> omega

/-- The corrected angle is the raw one and the correction, wrapped. -/
theorem angle_cast (e : EncoderState) (n now : Nat) :
    (e.angle n now : Int) = ((e.rawAngle n now : Int) + correctionAt e.correction e.count) % 2 ^ 20 := by
  have hnonneg : 0 ≤ ((e.rawAngle n now : Int) + correctionAt e.correction e.count) % 1048576 := by omega
  exact Int.toNat_of_nonneg hnonneg

/-- Settles O10, with the interpolation part that the model takes. -/
theorem angleAnswered : Obligations.AngleAnswered := by
  intro e n now hn
  have hspan : 0 < 2 ^ (20 - n) := Nat.two_pow_pos _
  have hangle := angle_cast e n now
  have hraw : e.rawAngle n now = (e.count * 2 ^ (20 - n) + e.interpolation (2 ^ (20 - n)) now) % 2 ^ 20 := rfl
  refine ⟨by omega, e.interpolation (2 ^ (20 - n)) now, interpolation_lt hspan, fun hseen => ?_, ?_, fun hsum => ?_, ?_⟩
  · unfold EncoderState.interpolation
    split
    · contradiction
    · rfl
  · intro t d hseen htime hinterval hd
    simp only [EncoderState.interpolation, hseen, htime, hinterval, EncoderState.quotient, if_neg hd.ne']
  · rw [correctionAt_beyond hsum] at hangle
    omega
  · intro before g later hsplit hpast hin
    rw [hangle, hsplit, correctionAt_selects hpast hin, hraw]

end Sys2Proof.Proofs.Encoders

/-! Readings of the peer table (R138, R166, R168): its entries are the occupied slots, each with its station's number. -/

namespace Sys2Proof.Proofs.PeerTable

open Sys2Proof.Machine

theorem mem_peersFrom {slots : List (Option Peer)} {first n : Nat} {p : Peer} :
    (n, p) ∈ peersFrom first slots ↔ ∃ i, slots[i]? = some (some p) ∧ n = first + i := by
  induction slots generalizing first with
  | nil => simp [peersFrom]
  | cons slot rest ih =>
    have hsplit : (∃ i, (slot :: rest)[i]? = some (some p) ∧ n = first + i) ↔
        (slot = some p ∧ n = first) ∨ (n, p) ∈ peersFrom (first + 1) rest := by
      rw [ih, ← Nat.or_exists_add_one]
      simp [Nat.add_assoc, Nat.add_comm 1]
    rw [hsplit]
    cases slot with
    | none => simp [peersFrom]
    | some q => simp [peersFrom, and_comm, eq_comm]

/-- The entries are the slots that a station's number reads. -/
theorem mem_entries {x : Pru} {n : Nat} {p : Peer} : (n, p) ∈ x.entries ↔ x.peer n = some p := by
  rw [Pru.entries, mem_peersFrom]
  constructor
  · rintro ⟨i, hslot, rfl⟩
    have hstation : 1 + i ≠ 0 := by omega
    simp only [Pru.peer, if_neg hstation, Nat.add_sub_cancel_left]
    rw [← Vector.getElem?_toList, hslot]
    rfl
  · intro hpeer
    unfold Pru.peer at hpeer
    split at hpeer
    · cases hpeer
    · refine ⟨n - 1, ?_, by omega⟩
      rw [Vector.getElem?_toList]
      exact Option.join_eq_some_iff.1 hpeer

/-- Peer-quiet is closed while an entry holds an open window (R168). -/
theorem quietClosed_iff {x : Pru} : x.quietClosed = true ↔ ∃ n p, x.peer n = some p ∧ p.window.isSome = true := by
  simp only [Pru.quietClosed, List.any_eq_true, Prod.exists, mem_entries]

/-- The honoured hold stands while an entry's hold flag is set (R166). -/
theorem holdStanding_iff {c : Settings} {x : Pru} :
    holdStanding c x = true ↔ c.honourHolds = true ∧ ∃ n p, x.peer n = some p ∧ p.hold = true := by
  simp only [holdStanding, Bool.and_eq_true, List.any_eq_true, Prod.exists, mem_entries]

end Sys2Proof.Proofs.PeerTable

/-! The abandonment of an open attempt while RGU holds no shot and the report stream is free (R62, R105, R109, R114), and a
shot closed as missing while PTA holds none (R45, R60): what the obligations about attempts share. -/

namespace Sys2Proof.Proofs.Abandon

open Sys2Proof.Machine

/-- An event that no mask drops enters a free report stream (R182). -/
theorem plusEvent_unmaskable {c : Settings} {now : Nat} {e : Event} {q : Rps} (h : unmaskable e.kind = true) :
    q.plusEvent c now e = q.plus (.event ⟨e, 1, now⟩) := if_neg (by simp [Settings.masks, h])

section
variable {s : State}

/-! ## Shots closed as missing -/

/-- A missing shot of the open attempt is held, and dirties it (R59, R60). -/
theorem closeMissing_held {sh : Shot} {q : PointContext} (hq : s.pta.context = some q) (hline : sh.line = q.line)
    (hattempt : sh.attempt = q.attempt) (hheld : s.pta.held = none) :
    s.closeMissing sh = s.withPta { s.pta with held := some sh.missed, context := some (q.missed sh.index) } := by
  simp only [State.closeMissing, State.ptaTake, hq, hline, hattempt, and_self, if_true, State.ptaAdmit, State.withPta_pta,
    hheld, State.withPta_withPta]
  rfl

/-! ## The end of an attempt that is abandoned -/

/-- PTA's window is emptied and its context closed where it stands (R62). -/
def ptaAbandoned (x : Pta) : Pta := if x.context.isSome then { x with predecessor := none, held := none, context := none } else x

theorem ptaAbandoned_context (x : Pta) : (ptaAbandoned x).context = none := by
  unfold ptaAbandoned
  split
  · rfl
  · simpa using ‹¬x.context.isSome = true›

theorem ptaAbandoned_of {x : Pta} {q : PointContext} (h : x.context = some q) :
    ptaAbandoned x = { x with predecessor := none, held := none, context := none } := by
  simp [ptaAbandoned, h]

/-- PTA's context is closed, or stands for this attempt. -/
def Serves (x : Pta) (a : AttemptRecord) : Prop := ∀ q, x.context = some q → q.line = a.line ∧ q.attempt = a.attempt

theorem Serves.of_context {x : Pta} {a : AttemptRecord} {q : PointContext} (h : x.context = some q) (hline : q.line = a.line)
    (hattempt : q.attempt = a.attempt) : Serves x a := by
  intro q' hq'
  cases h.symm.trans hq'
  exact ⟨hline, hattempt⟩

theorem ptaEnd_abandoned {a : AttemptRecord} (h : Serves s.pta a) :
    s.ptaEnd .abandoned a.line a.attempt = s.withPta (ptaAbandoned s.pta) := by
  unfold State.ptaEnd ptaAbandoned
  split
  · rename_i hnone
    simp [hnone]
  · rename_i q hq
    simp [hq, h q hq]

theorem rguEnd_abandoned {a : AttemptRecord} (hshots : s.rgu.openShots = []) (hpta : Serves s.pta a) :
    s.rguEnd .abandoned a.line a.attempt = (s.withRgu { s.rgu with record := none }).withPta (ptaAbandoned s.pta) := by
  have hpassed := ptaEnd_abandoned (s := s.withRgu { s.rgu with openShots := [] }) hpta
  simp only [State.rguEnd, hshots, State.closeAllMissing, hpassed]
  rw [← hshots]
  rfl

/-- EMT, RGU and PTA once an attempt with no open shot is abandoned (R37, R44, R62). -/
def ended (s : State) : State :=
  (((s.withPwk { s.pwk with attemptLimit := none }).withEmt { s.emt with context := none, keptFired := none }).withRgu
    { s.rgu with record := none }).withPta (ptaAbandoned s.pta)

theorem endNotices_ended {a : AttemptRecord} (hshots : s.rgu.openShots = []) (hpta : Serves s.pta a) :
    s.endNotices .abandoned a = ended s := by
  have hclosed : s.closeNotice.rgu.openShots = [] := hshots
  exact rguEnd_abandoned hclosed hpta

/-- The walker once its attempt is abandoned: LINE_WAIT or PAUSED, HALTED for a proximity hit (R109, R114, R116). -/
def walkerAbandoned (reason : AbandonReason) (x : Pwk) : Pwk :=
  let y := { x with attempt := none, attemptNumber := x.attemptNumber + 1, outgoing := none, attemptLimit := none }
  if reason = .proximity then { y with state := .halted }
  else { y with state := if x.pausePending then .paused else .lineWait, pausePending := false }

theorem walkerAbandoned_other {reason : AbandonReason} (h : reason ≠ .proximity) (x : Pwk) :
    walkerAbandoned reason x = { x with
      attempt := none, attemptNumber := x.attemptNumber + 1, outgoing := none, attemptLimit := none
      state := if x.pausePending then .paused else .lineWait, pausePending := false } := if_neg h

theorem walkerAbandoned_proximity (x : Pwk) : walkerAbandoned .proximity x = { x with
    attempt := none, attemptNumber := x.attemptNumber + 1, outgoing := none, attemptLimit := none, state := .halted } := by
  simp only [walkerAbandoned, if_true]

theorem recordAbandoned_free {reason : AbandonReason} {a : AttemptRecord} {fired : Nat} (hfree : s.FreeReport 1)
    (hlimit : s.pwk.attemptLimit = none) : s.recordAbandoned reason a fired =
      (s.withPwk (walkerAbandoned reason s.pwk)).withRps
        (s.rps.plus (.lineAbandoned a.line a.attempt a.headAzimuth reason fired)) := by
  unfold State.recordAbandoned walkerAbandoned Pwk.haltFor
  rw [State.retryLine_free _ _ _ _ (by simpa using hfree)]
  split
  · simp [hlimit]
  · simp only [Pwk.toLineWait_eq, State.withPwk_pwk, State.withRps_pwk, hlimit]
    rfl

/-- The abandonment of an open attempt that leaves the line for another: every part closed, its record at the tail. -/
theorem abandon_free {reason : AbandonReason} {a : AttemptRecord} (hshots : s.rgu.openShots = []) (hopen : a.ending = false)
    (hnumber : a.attempt ≠ 65535) (hpta : Serves s.pta a) (hfree : s.FreeReport 1) :
    s.abandon reason a = ((ended s).withPwk (walkerAbandoned reason s.pwk)).withRps
      (s.rps.plus (.lineAbandoned a.line a.attempt a.headAzimuth reason (s.firedOf a))) := by
  rw [State.abandon_noShots reason a s hshots hopen hnumber, endNotices_ended hshots hpta,
    recordAbandoned_free (s := ended s) hfree rfl]
  rfl

/-- An open attempt's fired count stands at EMT (R37). -/
theorem firedOf_open {a : AttemptRecord} {ctx : EmitContext} (hfired : a.fired = none) (hctx : s.emt.context = some ctx) :
    s.firedOf a = ctx.fired := by
  simp [State.firedOf, hfired, Emt.closeCount, hctx]

end

end Sys2Proof.Proofs.Abandon

/-! The shot path at its timers and at a scheduled instant (O9, O14, O15, O17). -/

namespace Sys2Proof.Proofs.ShotPath

open Sys2Proof.Machine Sys2Proof.Proofs.Effects Sys2Proof.Proofs.PeerTable Sys2Proof.Proofs.Abandon

/-! ## Timers -/

theorem due_of {timer : Option Nat} {now e : Nat} (h : timer = some e) (hle : e ≤ now) : due timer now = true := by
  rw [h]
  exact decide_eq_true hle

theorem not_due_of {timer : Option Nat} {now e : Nat} (h : timer = some e) (hlt : now < e) : ¬due timer now = true := by
  rw [h]
  exact fun hdue => absurd (of_decide_eq_true hdue) (by omega)

theorem raiseInRun_free {s : State} (e : Event) (hfree : s.FreeReport 1) :
    s.raiseInRun e = s.withRps (if s.cmu.device = .running then s.rps.plusEvent s.cmu.settings s.time e else s.rps) := by
  unfold State.raiseInRun
  split
  · exact State.raise_free (k := 0) e hfree
  · rfl

/-- Settles O9. -/
theorem shotPathTimersExpire : Obligations.ShotPathTimersExpire := by
  refine ⟨fun s e hp hok habsence hle hfree => exec_next hp ?_, fun s hp => ⟨fun p hfire hle => ?_, fun e hemit hle => ?_⟩⟩
  · exact (if_pos ⟨hok, due_of habsence hle⟩).trans (raiseInRun_free _ hfree)
  · exact exec_next hp (if_pos (due_of (by rw [hfire]; rfl) hle))
  · have hfall : s.emitFall = (s.withEmt { s.emt with emit := none }).requestBeacon := if_pos (by rw [hemit]; rfl)
    exact exec_next hp ((if_pos (due_of hemit hle)).trans hfall)

/-! ## A scheduled instant -/

section
variable {s : State} {i : Schedule}

/-- A scheduled instant that has been reached: it is handled, the schedule advances, and the walker takes its notice. -/
theorem scheduledInstant_due (hschedule : s.emt.schedule = some i) (hle : i.next ≤ s.time) :
    effect .scheduledInstant s =
      (s.handleInstant.1.withEmt (s.handleInstant.1.emt.advance s.cmu.settings i)).takeNotice s.handleInstant.2 := by
  show scheduledInstantAct s = _
  simp only [scheduledInstantAct, hschedule, hle, if_true]

theorem advance_eq {x : Emt} {v : Nat} (c : Settings) (i : Schedule) (h : x.generator = some v) :
    x.advance c i = { x with
      generator := some (lcg v), schedule := some ⟨i.next + intervalOf c (lcg v), i.number + 1⟩ } := by
  simp only [Emt.advance, h, Option.getD_some]

theorem handleInstant_closed (hctx : s.emt.context = none) : s.handleInstant = (s, none) := by
  simp only [State.handleInstant, hctx]

/-- Settles O14: with no attempt open the instant is handled by nothing. -/
theorem instantPassesUnfired : Obligations.InstantPassesUnfired := by
  intro s i x hp hschedule hle hgenerator hctx
  refine exec_next hp ?_
  rw [scheduledInstant_due hschedule hle, handleInstant_closed hctx, advance_eq _ _ hgenerator]
  rfl

/-! ## A shot fired -/

/-- An open gate is one whose conditions all hold, at an eligible candidate (R28, R29). -/
theorem closed_of_gateOpen (h : s.gateOpen) : s.closedConditions.anyClosed = false := by
  obtain ⟨hdevice, hmembership, hmonitor, hwalker, hphoto, hquiet, hhold, -⟩ := h
  simp [State.closedConditions, GateConditions.anyClosed, hdevice, hmembership, hmonitor, hwalker, hphoto, hquiet, hhold]

theorem handleInstant_fires {ctx : EmitContext} (hgate : s.gateOpen) (hctx : s.emt.context = some ctx) :
    s.handleInstant =
      (s.fireShot { ctx with candidates := ctx.candidates + 1 } (s.angle .mirror) (s.angle .head), none) := by
  have hclosed := closed_of_gateOpen hgate
  obtain ⟨-, -, -, -, -, -, -, ctx', hctx', hfrom, hto, hblind, heligible⟩ := hgate
  cases hctx.symm.trans hctx'
  have hcandidate : ctx.candidate s.cmu.settings.blindHalfWidth (s.angle .mirror) = true := by
    simp [EmitContext.candidate, hfrom, hto, hblind]
  have heligible : ctx.eligible = true := by simp [EmitContext.eligible, heligible]
  simp only [State.handleInstant, hctx, hcandidate, if_true, State.judgeInstant, hclosed, heligible, Bool.false_eq_true, if_false]

/-- EMT as it fires a shot, before EMIT is raised (R31). -/
def pulsed (s : State) (ctx : EmitContext) : Emt :=
  { s.emt with
    fire := some ⟨s.time + 5, s.emt.tagCounter⟩
    tagCounter := (s.emt.tagCounter + 1) % 256
    context := some { ctx with candidates := ctx.candidates + 1, fired := ctx.fired + 1 } }

/-- The shot as RGU takes it (R31). -/
def shotOf (s : State) (ctx : EmitContext) : Shot :=
  ⟨s.emt.tagCounter, s.time, ctx.fired, ctx.line, ctx.attempt, s.angle .mirror, s.angle .head⟩

/-- EMIT is high to two base periods on; its rise asks for a beacon (R33, R132). -/
theorem raiseEmit_eq (s : State) : s.raiseEmit =
    (s.withEmt { s.emt with emit := some (s.time + 2 * s.cmu.settings.basePeriod) }).withSlc
      (if s.emt.emit = none then s.slc.request s.time .beacon else s.slc) := by
  unfold State.raiseEmit
  cases hemit : s.emt.emit <;> rfl

/-- A firing instant: FIRE and the shot to RGU, then EMIT, then the schedule. -/
theorem scheduledInstant_fires {ctx : EmitContext} {x : Nat} {t : State} (hschedule : s.emt.schedule = some i)
    (hle : i.next ≤ s.time) (hgenerator : s.emt.generator = some x) (hgate : s.gateOpen) (hctx : s.emt.context = some ctx)
    (ht : (s.withEmt (pulsed s ctx)).rguFire (shotOf s ctx) = t) (hemt : t.emt = pulsed s ctx) :
    effect .scheduledInstant s =
      (t.withEmt { pulsed s ctx with
        generator := some (lcg x)
        schedule := some ⟨i.next + intervalOf s.cmu.settings (lcg x), i.number + 1⟩
        emit := some (t.time + 2 * t.cmu.settings.basePeriod) }).withSlc
      (if s.emt.emit = none then t.slc.request t.time .beacon else t.slc) := by
  have hadvance := advance_eq (x := t.raiseEmit.emt) (v := x) s.cmu.settings i
    (by rw [raiseEmit_eq, State.withSlc_emt, State.withEmt_emt, hemt]; exact hgenerator)
  rw [scheduledInstant_due hschedule hle, handleInstant_fires hgate hctx]
  refine (congrArg (fun u => u.raiseEmit.withEmt (u.raiseEmit.emt.advance s.cmu.settings i)) ht).trans ?_
  dsimp only
  rw [hadvance, raiseEmit_eq, hemt]
  rfl

/-- RGU opens a shot of the attempt on record while fewer than two stand open (R41). -/
theorem rguFire_appends {sh : Shot} {r : RangeRecord} (hrecord : s.rgu.record = some r) (hline : r.line = sh.line)
    (hattempt : r.attempt = sh.attempt) (hfew : s.rgu.openShots.length ≤ 1) :
    s.rguFire sh = s.withRgu { s.rgu with openShots := s.rgu.openShots ++ [sh] } := by
  have hserved : (s.rgu.record.any fun r => r.line == sh.line && r.attempt == sh.attempt) = true := by
    simp [hrecord, hline, hattempt]
  rw [State.rguFire, if_pos hserved]
  rcases hshots : s.rgu.openShots with _ | ⟨first, _ | ⟨second, rest⟩⟩
  · rfl
  · rfl
  · rw [hshots] at hfew
    simp at hfew

/-- A third open shot closes the oldest as missing (R41, R45). -/
theorem rguFire_closes {sh oldest second : Shot} {r : RangeRecord} (hrecord : s.rgu.record = some r) (hline : r.line = sh.line)
    (hattempt : r.attempt = sh.attempt) (hshots : s.rgu.openShots = [oldest, second]) :
    s.rguFire sh = (s.withRgu { s.rgu with openShots := [second, sh] }).closeMissing oldest := by
  have hserved : (s.rgu.record.any fun r => r.line == sh.line && r.attempt == sh.attempt) = true := by
    simp [hrecord, hline, hattempt]
  rw [State.rguFire, if_pos hserved, hshots]
  rfl

/-- Settles O15: the shot is handed to RGU, which appends it or closes the oldest of three. -/
theorem shotFired : Obligations.ShotFired := by
  intro s i ctx r x hp hschedule hle hgenerator hgate hctx hrecord hline hattempt shot fired
  refine ⟨fun hfew => exec_next hp ?_, fun oldest second q hshots hq hqline hqattempt hheld => exec_next hp ?_⟩
  · exact scheduledInstant_fires hschedule hle hgenerator hgate hctx
      (rguFire_appends (r := r) hrecord hline hattempt hfew) rfl
  · have hclosed := (rguFire_closes (s := s.withEmt (pulsed s ctx)) (sh := shotOf s ctx) hrecord hline hattempt hshots).trans
      (closeMissing_held (q := q) hq hqline hqattempt hheld)
    exact scheduledInstant_fires hschedule hle hgenerator hgate hctx hclosed rfl

/-! ## An interruption -/

/-- An instant that finds the gate closed, its attempt not yet reported on, brings the notice (R32). -/
theorem handleInstant_notice {ctx : EmitContext} (hctx : s.emt.context = some ctx)
    (hcandidate : ctx.candidate s.cmu.settings.blindHalfWidth (s.angle .mirror) = true)
    (hclosed : s.closedConditions.anyClosed = true) (hreported : ctx.reported = false) :
    s.handleInstant =
      (s.withEmt { s.emt with context := some { ctx with candidates := ctx.candidates + 1, reported := true } },
        some ⟨ctx.line, ctx.attempt, s.time, s.closedConditions⟩) := by
  simp only [State.handleInstant, hctx, hcandidate, if_true, State.judgeInstant, hclosed, hreported, Bool.false_eq_true, if_false]

theorem gateConditions_ext {g h : GateConditions} (h1 : g.deviceMembership = true ↔ h.deviceMembership = true)
    (h2 : g.mirrorSpeed = true ↔ h.mirrorSpeed = true) (h3 : g.walker = true ↔ h.walker = true)
    (h4 : g.ownPhoto = true ↔ h.ownPhoto = true) (h5 : g.peerQuiet = true ↔ h.peerQuiet = true)
    (h6 : g.peerHold = true ↔ h.peerHold = true) : g = h := by
  cases g
  cases h
  simp only [GateConditions.mk.injEq]
  exact ⟨Bool.eq_iff_iff.2 h1, Bool.eq_iff_iff.2 h2, Bool.eq_iff_iff.2 h3, Bool.eq_iff_iff.2 h4, Bool.eq_iff_iff.2 h5,
    Bool.eq_iff_iff.2 h6⟩

/-- What such an instant does before the walker takes its notice touches EMT alone. -/
theorem scheduledInstant_notice {ctx : EmitContext} (hschedule : s.emt.schedule = some i) (hle : i.next ≤ s.time)
    (hctx : s.emt.context = some ctx)
    (hcandidate : ctx.candidate s.cmu.settings.blindHalfWidth (s.angle .mirror) = true)
    (hclosed : s.closedConditions.anyClosed = true) (hreported : ctx.reported = false) :
    ∃ x : Emt, x.fire = s.emt.fire ∧
      x.context = some { ctx with candidates := ctx.candidates + 1, reported := true } ∧
      effect .scheduledInstant s =
        (s.withEmt x).takeNotice (some ⟨ctx.line, ctx.attempt, s.time, s.closedConditions⟩) := by
  rw [scheduledInstant_due hschedule hle, handleInstant_notice hctx hcandidate hclosed hreported]
  refine ⟨Emt.advance s.cmu.settings i
    { s.emt with context := some { ctx with candidates := ctx.candidates + 1, reported := true } }, rfl, rfl, ?_⟩
  rw [State.withEmt_emt, State.withEmt_withEmt]

/-- The walker takes the notice of its open attempt (R109). -/
theorem takeNotice_abandons {t : State} {n : Interruption} {a : AttemptRecord} (hattempt : t.pwk.attempt = some a)
    (hopen : a.ending = false) (hline : a.line = n.line) (hnumber : a.attempt = n.attempt) :
    t.takeNotice (some n) = t.abandon (.gate n.closed) a := by
  simp only [State.takeNotice, State.interrupt, hattempt]
  exact if_pos ⟨hopen, hline, hnumber⟩

/-- Settles O17: the notice names the closed conditions, and the walker abandons its open attempt. -/
theorem interruptionAbandons : Obligations.InterruptionAbandons := by
  intro s i ctx a g hp h1 h2 h3 h4 h5 h6 hany hschedule hle hctx hreported hcandidate hattempt hline hnumber hopen hfired hlast
    hshots hheld hpta hfree
  have hg : s.closedConditions = g := by
    refine gateConditions_ext (Iff.trans ?_ h1.symm) (Iff.trans ?_ h2.symm) (Iff.trans ?_ h3.symm) h4.symm
      (quietClosed_iff.trans h5.symm) (holdStanding_iff.trans h6.symm)
    · simp [State.closedConditions]
    · simp [State.closedConditions]
    · simp [State.closedConditions]
  have hclosed : s.closedConditions.anyClosed = true := by
    rw [hg]
    simpa [GateConditions.anyClosed, or_assoc] using hany
  have hserves : Serves s.pta a := by
    intro q hq
    simpa [hq, hline, hnumber] using hpta
  obtain ⟨x, hfire, hcontext, hnext⟩ := scheduledInstant_notice hschedule hle hctx hcandidate hclosed hreported
  have habandon := hnext.trans ((takeNotice_abandons (t := s.withEmt x) hattempt hopen hline hnumber).trans
    (abandon_free (s := s.withEmt x) hshots hopen hlast hserves hfree))
  rw [firedOf_open (s := s.withEmt x) hfired hcontext, hg,
    walkerAbandoned_other (reason := .gate g) nofun] at habandon
  exact ⟨_, exec_next hp habandon, hfire, rfl, rfl, ptaAbandoned_context s.pta, rfl, rfl, rfl, rfl, rfl, rfl, rfl, rfl, rfl,
    rfl, rfl, rfl, rfl⟩

end

end Sys2Proof.Proofs.ShotPath

/-! Reading the fields of bytes put together from numbers (R207), and from there the layout of a record (R210): each field is
found by dropping the ones before it. -/

namespace Sys2Proof.Proofs.Layout

open Sys2Proof.Machine

/-! ## Fields of little-endian numbers -/

/-- A number written over w bytes is read back modulo 256 ^ w. -/
theorem unle_le_mod (w n : Nat) : unle (le w n) = n % 256 ^ w := by
  induction w generalizing n with
  | zero => simp [le, unle, Nat.mod_one]
  | succ w ih =>
    have hbyte : (BitVec.ofNat 8 n).toNat = n % 256 := rfl
    rw [le, unle, ih, hbyte, Nat.pow_succ', Nat.mod_mul]

/-- A part of bytes past a first part lies in what follows it. -/
theorem slice_append_past {bs : List Byte} {offset : Nat} (rest : List Byte) (w : Nat) (h : bs.length ≤ offset) :
    slice (bs ++ rest) offset w = slice rest (offset - bs.length) w := by
  rw [slice, List.drop_append, List.drop_of_length_le h, List.nil_append]
  rfl

/-- A part of bytes within a first part is not touched by what follows it. -/
theorem slice_append_within {bs : List Byte} {offset w : Nat} (rest : List Byte) (h : offset + w ≤ bs.length) :
    slice (bs ++ rest) offset w = slice bs offset w := by
  rw [slice, List.drop_append_of_le_length (by omega), List.take_append_of_le_length (by rw [List.length_drop]; omega)]
  rfl

theorem slice_all {bs : List Byte} {w : Nat} (h : bs.length = w) : slice bs 0 w = bs := by
  rw [slice, List.drop_zero, List.take_of_length_le h.le]

@[simp] theorem field_le_here (w n : Nat) (rest : List Byte) : field (le w n ++ rest) 0 w = n % 256 ^ w := by
  rw [field, slice_append_within rest (by rw [le_length, Nat.zero_add]), slice_all (le_length w n), unle_le_mod]

@[simp] theorem field_le_only (w n : Nat) : field (le w n) 0 w = n % 256 ^ w := by
  simpa using field_le_here w n []

theorem field_append_past {bs : List Byte} {offset : Nat} (rest : List Byte) (w : Nat) (h : bs.length ≤ offset) :
    field (bs ++ rest) offset w = field rest (offset - bs.length) w := congrArg unle (slice_append_past rest w h)

@[simp] theorem field_le_past {v offset : Nat} (n : Nat) (rest : List Byte) (w : Nat) (h : v ≤ offset) :
    field (le v n ++ rest) offset w = field rest (offset - v) w := by
  have hlength : (le v n).length = v := le_length v n
  rw [field_append_past rest w (by omega), hlength]

@[simp] theorem field_cons_past {offset : Nat} (b : Byte) (rest : List Byte) (w : Nat) (h : 1 ≤ offset) :
    field (b :: rest) offset w = field rest (offset - 1) w := field_append_past (bs := [b]) rest w h

@[simp] theorem field_cons_here (b : Byte) (rest : List Byte) : field (b :: rest) 0 1 = b.toNat := by
  simp [field, slice, unle]

/-! ## Items of one width after one another -/

section
variable {α : Type} {item : α → List Byte} {k : Nat}

theorem flatMap_length (hk : ∀ x, (item x).length = k) (l : List α) : (l.flatMap item).length = k * l.length := by
  induction l with
  | nil => rfl
  | cons x xs ih =>
    rw [List.flatMap_cons, List.length_append, hk, ih, List.length_cons, Nat.mul_succ, Nat.add_comm]

/-- A part of item i of a row of items. -/
theorem slice_flatMap (hk : ∀ x, (item x).length = k) {l : List α} {i : Nat} (h : i < l.length) (rest : List Byte)
    {offset w : Nat} (hw : offset + w ≤ k) : slice (l.flatMap item ++ rest) (k * i + offset) w = slice (item l[i]) offset w := by
  induction l generalizing i with
  | nil => cases h
  | cons x xs ih =>
    have hx := hk x
    rw [List.flatMap_cons, List.append_assoc]
    cases i with
    | zero => rw [Nat.mul_zero, Nat.zero_add, slice_append_within _ (by omega), List.getElem_cons_zero]
    | succ i =>
      rw [slice_append_past _ _ (by rw [Nat.mul_succ]; omega), hx, List.getElem_cons_succ, ← ih (Nat.lt_of_succ_lt_succ h)]
      congr 1
      rw [Nat.mul_succ]
      omega

theorem field_flatMap (hk : ∀ x, (item x).length = k) {l : List α} {i : Nat} (h : i < l.length) (rest : List Byte)
    {offset w : Nat} (hw : offset + w ≤ k) : field (l.flatMap item ++ rest) (k * i + offset) w = field (item l[i]) offset w :=
  congrArg unle (slice_flatMap hk h rest hw)

/-- A field of item i of a row of items behind a first part. -/
theorem field_items {bs : List Byte} (hk : ∀ x, (item x).length = k) {l : List α} {i : Nat} (h : i < l.length)
    (rest : List Byte) {start offset place w : Nat} (hstart : bs.length = start) (hplace : place = start + k * i + offset)
    (hw : offset + w ≤ k) : field (bs ++ (l.flatMap item ++ rest)) place w = field (item l[i]) offset w := by
  rw [field_append_past _ _ (by omega), ← field_flatMap hk h rest hw]
  congr 1
  omega

end

/-- A list of numbers as fields of one byte each, found at the number's place. -/
theorem mem_zipIdx_getElem {α : Type} {l : List α} {x : α × Nat} (h : x ∈ l.zipIdx) : ∃ hi : x.2 < l.length, l[x.2] = x.1 := by
  have hx : l[x.2]? = some x.1 := List.mk_mem_zipIdx_iff_getElem?.1 h
  exact List.getElem?_eq_some_iff.1 hx

/-! ## The layout of a record -/

/-- A record's layout, from its body: the header word is the kind code and the word count (R210). -/
theorem hasLayout_of_body {r : Record} {kind length : Nat} {fields : List (Nat × Nat × Nat)} (hkind : r.kindCode = kind)
    (hlength : 2 + r.body.length = length)
    (hfields : ∀ f ∈ fields, 2 ≤ f.1 ∧ field r.body (f.1 - 2) f.2.1 = f.2.2 % 256 ^ f.2.1) :
    r.HasLayout kind length fields := by
  subst hkind hlength
  refine ⟨by simp [Record.bytes, le_length], by simp [Record.bytes, Record.wordCount], fun f hf => ?_⟩
  obtain ⟨hpast, hfield⟩ := hfields f hf
  rw [Record.bytes, field_le_past _ _ _ hpast, hfield]

/-- One byte of flags (R211). -/
theorem flagsByte_eq (flags : List Bool) : flagsByte flags = le 1 (flags.foldr (fun f n => f.toNat + 2 * n) 0) := rfl

theorem lineBegin_layout (line attempt time azimuth : Nat) : (Record.lineBegin line attempt time azimuth).HasLayout 2 17
    [(2, 4, line), (6, 2, attempt), (8, 6, time), (14, 3, azimuth)] :=
  hasLayout_of_body rfl (by simp [Record.body, le_length]) (by simp [Record.body])

theorem lineEnd_layout (line attempt azimuth : Nat) (outcome : LineOutcome) (thinned : Bool) (counted fired offered : Nat) :
    (Record.lineEnd line attempt azimuth outcome thinned counted fired offered).HasLayout 3 22
      [(2, 4, line), (6, 2, attempt), (8, 3, azimuth), (11, 1, match outcome with | .accepted => 1 | .gap => 2),
       (12, 1, thinned.toNat), (13, 1, counted), (14, 4, fired), (18, 4, offered)] :=
  hasLayout_of_body rfl (by simp [Record.body, le_length, flagsByte_eq]) (by simp [Record.body, flagsByte_eq] <;> rfl)

theorem photo_layout (p : Photo) : (Record.photo p).HasLayout 5 (25 + p.ungranted.length)
    ([(2, 4, p.number), (6, 1, p.camera), (7, 1, p.peerLit.toNat + 2 * p.aborted.toNat), (8, 3, p.azimuth),
      (11, 3, (p.elevation % 2 ^ 24).toNat), (14, 6, p.startTime), (20, 4, p.length), (24, 1, p.ungranted.length)] ++
      p.ungranted.zipIdx.map fun x => (25 + x.2, 1, x.1)) := by
  have hone : ∀ n, (le 1 n).length = 1 := fun n => le_length 1 n
  refine hasLayout_of_body rfl ?_ (List.forall_mem_append.2 ⟨?_, ?_⟩)
  · simp [Record.body, Photo.body, le_length, flagsByte_eq, leInt, flatMap_length hone]
    omega
  · simp [Record.body, Photo.body, flagsByte_eq, leInt]
  · intro f hf
    obtain ⟨x, hx, rfl⟩ := List.mem_map.1 hf
    obtain ⟨hi, hvalue⟩ := mem_zipIdx_getElem hx
    refine ⟨by simp only; omega, ?_⟩
    have hfield := field_items (bs := le 4 p.number ++ le 1 p.camera ++ flagsByte [p.peerLit, p.aborted] ++ le 3 p.azimuth ++
      leInt 3 p.elevation ++ le 6 p.startTime ++ le 4 p.length ++ le 1 p.ungranted.length) hone hi [] (start := 23)
      (offset := 0) (place := 25 + x.2 - 2) (w := 1) (by simp [le_length, flagsByte_eq, leInt]) (by omega) (by omega)
    rw [List.append_nil, hvalue, field_le_only] at hfield
    exact hfield

/-! ## LINE_ABANDONED, POINT and EVENT -/

theorem lineAbandoned_layout (line attempt azimuth : Nat) (reason : AbandonReason) (fired : Nat) :
    (Record.lineAbandoned line attempt azimuth reason fired).HasLayout 4 (match reason with | .dirty _ _ _ => 25 | _ => 21)
      ([(2, 4, line), (6, 2, attempt), (8, 3, azimuth), (11, 1, reason.codes.1), (12, 1, reason.codes.2.1),
        (13, 4, reason.codes.2.2), (17, 4, fired)] ++ match reason with | .dirty _ _ offered => [(21, 4, offered)] | _ => []) := by
  refine hasLayout_of_body rfl ?_ ?_
  · cases reason <;> simp [Record.body, le_length, AbandonReason.offered]
  · cases reason <;> simp [Record.body, AbandonReason.offered]

/-- The bytes of a POINT up to its returns (R211). -/
def pointHead (p : PointRecord) : List Byte :=
  le 4 p.line ++ le 2 p.attempt ++ le 4 p.index ++ le 6 p.fireTime ++ le 3 p.mirrorAngle ++ le 3 p.headAzimuth ++
    flagsByte [p.thinned, p.moreEchoes, p.missing, p.colour.isSome] ++ le 1 p.returns.length

theorem point_body (p : PointRecord) : (Record.point p).body =
    pointHead p ++ (p.returns.flatMap PointReturn.bytes ++ (p.colour.map ColourRef.bytes).getD []) := List.append_assoc _ _ _

theorem pointHead_length (p : PointRecord) : (pointHead p).length = 24 := by
  simp [pointHead, le_length, flagsByte_eq]

theorem pointReturn_length (r : PointReturn) : r.bytes.length = 6 := by
  simp [PointReturn.bytes, le_length]

theorem point_layout (p : PointRecord) :
    (Record.point p).HasLayout 1 (26 + 6 * p.returns.length + if p.colour.isSome then 8 else 0)
      [(2, 4, p.line), (6, 2, p.attempt), (8, 4, p.index), (12, 6, p.fireTime), (18, 3, p.mirrorAngle), (21, 3, p.headAzimuth),
       (24, 1, p.thinned.toNat + 2 * p.moreEchoes.toNat + 4 * p.missing.toNat + 8 * p.colour.isSome.toNat),
       (25, 1, p.returns.length)] := by
  refine hasLayout_of_body rfl ?_ ?_
  · rw [point_body, List.length_append, List.length_append, pointHead_length, flatMap_length pointReturn_length]
    cases p.colour with
    | none => simp; omega
    | some c => simp [ColourRef.bytes, le_length]; omega
  · rw [point_body]
    simp [pointHead, flagsByte_eq]
    omega

/-- A field of the header word is skipped. -/
theorem bytes_field {r : Record} {offset : Nat} (w : Nat) : field r.bytes (offset + 2) w = field r.body offset w :=
  field_le_past _ _ _ (Nat.le_add_left 2 offset)

theorem point_return (p : PointRecord) (i : Nat) (h : i < p.returns.length) :
    field (Record.point p).bytes (26 + 6 * i) 4 = p.returns[i].range % 2 ^ 32 ∧
      field (Record.point p).bytes (30 + 6 * i) 2 = p.returns[i].amplitude % 4096 + if p.returns[i].isolated then 32768 else 0 := by
  have hitem := fun {place offset w : Nat} => field_items (bs := pointHead p) pointReturn_length h
    ((p.colour.map ColourRef.bytes).getD []) (place := place) (offset := offset) (w := w) (pointHead_length p)
  constructor
  · rw [show 26 + 6 * i = (24 + 6 * i) + 2 by omega, bytes_field, point_body, hitem (offset := 0) (w := 4) (by omega) (by omega)]
    simp [PointReturn.bytes]
  · rw [show 30 + 6 * i = (28 + 6 * i) + 2 by omega, bytes_field, point_body, hitem (offset := 4) (w := 2) (by omega) (by omega)]
    simp [PointReturn.bytes]
    split <;> omega

theorem point_colour (p : PointRecord) (c : ColourRef) (h : p.colour = some c) :
    field (Record.point p).bytes (26 + 6 * p.returns.length) 4 = c.photo % 2 ^ 32 ∧
      field (Record.point p).bytes (30 + 6 * p.returns.length) 2 = c.column % 65536 ∧
      field (Record.point p).bytes (32 + 6 * p.returns.length) 2 = c.row % 65536 := by
  have htail : ∀ {place offset w : Nat}, place = 26 + 6 * p.returns.length + offset →
      field (Record.point p).bytes place w = field c.bytes offset w := by
    intro place offset w hplace
    have hreturns := flatMap_length pointReturn_length p.returns
    have hhead := pointHead_length p
    rw [show place = (24 + 6 * p.returns.length + offset) + 2 by omega, bytes_field, point_body, h, Option.map_some,
      Option.getD_some, field_append_past _ _ (by omega), field_append_past _ _ (by omega)]
    congr 1
    omega
  refine ⟨(htail (offset := 0) rfl).trans ?_, (htail (offset := 4) (by omega)).trans ?_, (htail (offset := 6) (by omega)).trans ?_⟩
  · simp [ColourRef.bytes]
  · simp [ColourRef.bytes]
  · simp [ColourRef.bytes]

/-- An EVENT, from the fields of its detail (R214). -/
theorem event_layout {e : PendingEvent} {detail : List (Nat × Nat × Nat)} (hlength : e.event.detail.length ≤ 12)
    (hdetail : ∀ f ∈ detail, f.1 + f.2.1 ≤ e.event.detail.length ∧
      field e.event.detail f.1 f.2.1 = f.2.2 % 256 ^ f.2.1) :
    (Record.event e).HasLayout 6 22
      ([(2, 1, e.event.kind), (3, 1, e.count), (4, 6, e.time)] ++ detail.map fun f => (10 + f.1, f.2.1, f.2.2)) := by
  refine hasLayout_of_body rfl ?_ (List.forall_mem_append.2 ⟨?_, ?_⟩)
  · simp [Record.body, PendingEvent.body, padTo, le_length]
    omega
  · simp [Record.body, PendingEvent.body]
  · intro f hf
    obtain ⟨f, hmem, rfl⟩ := List.mem_map.1 hf
    obtain ⟨hwithin, hvalue⟩ := hdetail f hmem
    refine ⟨by simp only; omega, ?_⟩
    have hhead : (le 1 e.event.kind ++ le 1 e.count ++ le 6 e.time).length = 8 := by simp [le_length]
    have hpast := field_append_past (bs := le 1 e.event.kind ++ le 1 e.count ++ le 6 e.time) (offset := 10 + f.1 - 2)
      (padTo 12 e.event.detail) f.2.1 (by omega)
    have hoffset : 10 + f.1 - 2 - 8 = f.1 := by omega
    rw [hhead, hoffset] at hpast
    exact hpast.trans ((congrArg unle (slice_append_within _ hwithin)).trans hvalue)

/-! ## Replies -/

/-- A REPLY up to its arguments (R215). -/
def replyHead (r : Reply) : List Byte := le 1 r.code ++ le 1 (outcomeCode r.outcome) ++ le 1 r.detail

theorem reply_body (r : Reply) : (Record.reply r).body = replyHead r ++ r.args.bytes := rfl

theorem replyHead_length (r : Reply) : (replyHead r).length = 3 := by simp [replyHead, le_length]

/-- A field of a REPLY's arguments. -/
theorem reply_field (r : Reply) (offset w : Nat) :
    field (Record.reply r).bytes (5 + offset) w = field r.args.bytes offset w := by
  have hhead := replyHead_length r
  rw [show 5 + offset = (3 + offset) + 2 by omega, bytes_field, reply_body, field_append_past _ _ (by omega)]
  congr 1
  omega

/-- A REPLY's layout from that of its arguments: each field of them lies 5 bytes on. -/
theorem reply_layout {r : Reply} {length : Nat} {fields : List (Nat × Nat × Nat)} (hlength : 5 + r.args.bytes.length = length)
    (hfields : ∀ f ∈ fields, field r.args.bytes f.1 f.2.1 = f.2.2 % 256 ^ f.2.1) :
    (Record.reply r).HasLayout 7 length (fields.map fun f => (5 + f.1, f.2.1, f.2.2)) := by
  have hhead := replyHead_length r
  refine hasLayout_of_body rfl ?_ fun f hf => ?_
  · rw [reply_body, List.length_append]
    omega
  · obtain ⟨f, hmem, rfl⟩ := List.mem_map.1 hf
    refine ⟨by simp only; omega, ?_⟩
    rw [← hfields f hmem, ← reply_field, ← bytes_field, Nat.sub_add_cancel (by simp only; omega)]

/-- Fields of a record stand one list after another. -/
theorem hasLayout_append {r : Record} {kind length : Nat} {first second : List (Nat × Nat × Nat)}
    (h : r.HasLayout kind length second) (hfirst : ∀ f ∈ first, field r.bytes f.1 f.2.1 = f.2.2 % 256 ^ f.2.1) :
    r.HasLayout kind length (first ++ second) := by
  obtain ⟨hlength, hheader, hsecond⟩ := h
  exact ⟨hlength, hheader, List.forall_mem_append.2 ⟨hfirst, hsecond⟩⟩

/-- The header of a REPLY: its code, outcome and detail (R215). -/
theorem reply_header (r : Reply) : ∀ f ∈ [(2, 1, r.code), (3, 1, outcomeCode r.outcome), (4, 1, r.detail)],
    field (Record.reply r).bytes f.1 f.2.1 = f.2.2 % 256 ^ f.2.1 := by
  simp [Record.bytes, reply_body, replyHead]

end Sys2Proof.Proofs.Layout

/-! The colour lookup and the judgement of a held shot (O23, O24). -/

namespace Sys2Proof.Proofs.Points

open Sys2Proof.Machine Sys2Proof.Proofs.Layout

/-! ## The colour lookup -/

/-- The search takes an entry: not aborted, its camera present, the direction contained (R91, R92). -/
def takes (x : Phc) (v : ViewDirection) (p : Photo) : Bool :=
  !p.aborted && (x.camera p.camera).present && p.contains (x.camera p.camera) v

theorem takes_iff {x : Phc} {v : ViewDirection} {p : Photo} : takes x v p = true ↔
    p.aborted = false ∧ (x.camera p.camera).present = true ∧
      (wrapDiff v.azimuth p.azimuth).natAbs ≤ (x.camera p.camera).halfWidthAz ∧
      (v.elevation - p.elevation).natAbs ≤ (x.camera p.camera).halfWidthEl := by
  simp only [takes, Photo.contains, Bool.and_eq_true, Bool.not_eq_true', decide_eq_true_eq, and_assoc]

/-- Entries that are not taken are passed over. -/
theorem searchEntries_past {x : Phc} {v : ViewDirection} {before after : List Photo} (h : ∀ p ∈ before, ¬takes x v p = true) :
    searchEntries x v (before ++ after) = searchEntries x v after := by
  induction before with
  | nil => rfl
  | cons p ps ih =>
    obtain ⟨hp, hps⟩ := List.forall_mem_cons.1 h
    rw [List.cons_append, searchEntries]
    exact (if_neg hp).trans (ih hps)

theorem clampInt_eq {lo hi : Int} (h : lo ≤ hi) (x : Int) : clampInt lo hi x = max lo (min hi x) := by
  unfold clampInt
  split
  · omega
  · split <;> omega

/-- A pixel's place within an image of at least one (R93). -/
theorem clampInt_pixel {size : Nat} (h : 1 ≤ size) (x : Int) :
    (clampInt 0 ((size : Int) - 1) x).toNat < size ∧
      ((clampInt 0 ((size : Int) - 1) x).toNat : Int) = max 0 (min ((size : Int) - 1) x) := by
  rw [clampInt_eq (by omega)]
  omega

/-- Settles O23: the newest entry that is taken stands first in the search. -/
theorem colourLooksUp : Obligations.ColourLooksUp := by
  intro x v holds
  refine ⟨fun hnone => ?_, fun older p newer hcatalogue hp hnewer hwidth hheight => ?_⟩
  · have hpast := searchEntries_past (x := x) (v := v) (before := x.catalogue.reverse) (after := [])
      fun p hp htakes => hnone p (List.mem_reverse.1 hp) (takes_iff.1 htakes)
    rw [List.append_nil] at hpast
    exact hpast
  · have hpast := searchEntries_past (x := x) (v := v) (before := newer.reverse) (after := p :: older.reverse)
      fun q hq htakes => hnewer q (List.mem_reverse.1 hq) (takes_iff.1 htakes)
    have hfirst : searchEntries x v (p :: older.reverse) = some (p.pixel (x.camera p.camera) v) := if_pos (takes_iff.2 hp)
    obtain ⟨hcolumn, hcolumnValue⟩ := clampInt_pixel hwidth ((x.camera p.camera).centreCol +
      roundDiv (wrapDiff v.azimuth p.azimuth * 256) (x.camera p.camera).pitchAz)
    obtain ⟨hrow, hrowValue⟩ := clampInt_pixel hheight ((x.camera p.camera).centreRow -
      roundDiv ((v.elevation - p.elevation) * 256) (x.camera p.camera).pitchEl)
    refine ⟨_, _, ?_, hcolumn, hrow, hcolumnValue, hrowValue⟩
    rw [Phc.lookup, hcatalogue, List.reverse_append, List.reverse_cons, List.append_assoc, List.singleton_append, hpast, hfirst]
    rfl

/-! ## The judgement of the held shot -/

/-- The unconfirmed action as the statement spells it (R69). -/
theorem surviving_eq (c : Settings) (left right : Option ClosedShot) (rs : List Return) :
    surviving c left right rs = rs.filterMap fun r =>
      if confirmed c left right r.range = true then some ⟨r.range, r.amplitude, false⟩
      else if c.unconfirmed = .drop then none
      else some ⟨r.range, r.amplitude, true⟩ := by
  refine List.filterMap_congr fun r _ => ?_
  unfold qualify
  split
  · rfl
  · cases c.unconfirmed <;> rfl

section
variable {s : State} {ctx : PointContext} {left right : Option ClosedShot} {h : ClosedShot} {kept : List PointReturn}

theorem judgeShot_none (hctx : s.pta.context = some ctx)
    (hkept : select ctx.mode (surviving s.cmu.settings left right h.returns) = []) : s.judgeShot left h right = s := by
  simp only [State.judgeShot, hctx, hkept, List.isEmpty_nil, if_true]

/-- THINNING offers no point of an odd index (R178). -/
theorem judgeShot_thinned (hctx : s.pta.context = some ctx)
    (hkept : select ctx.mode (surviving s.cmu.settings left right h.returns) ≠ []) (hthin : s.rps.thinning = true)
    (hodd : h.shot.index % 2 = 1) :
    s.judgeShot left h right = s.withPta { s.pta with context := some { ctx with thinned := true } } := by
  simp [State.judgeShot, hctx, hkept, hthin, hodd]

/-- A point is offered in NORMAL, and of an even index in THINNING (R75, R178). -/
theorem judgeShot_offers (hctx : s.pta.context = some ctx)
    (hkept : select ctx.mode (surviving s.cmu.settings left right h.returns) ≠ [])
    (heven : s.rps.thinning = true → h.shot.index % 2 = 0) :
    s.judgeShot left h right = s.offerPoint { ctx with thinned := ctx.thinned || s.rps.thinning }
      (buildPoint s.phc s.rps.thinning left h right (select ctx.mode (surviving s.cmu.settings left right h.returns))) := by
  cases hthin : s.rps.thinning with
  | true => simp [State.judgeShot, hctx, hkept, hthin, heven hthin]
  | false => simp [State.judgeShot, hctx, hkept, hthin]

/-- An offer touches PTA and the report stream alone, and so does a judgement. -/
theorem offerPoint_kept (ctx : PointContext) (p : PointRecord) : s.offerPoint ctx p =
    (s.withPta (s.offerPoint ctx p).pta).withRps (s.offerPoint ctx p).rps := by
  unfold State.offerPoint State.enter
  dsimp only
  split <;> rfl

theorem judgeShot_kept (left : Option ClosedShot) (h : ClosedShot) (right : Option ClosedShot) : s.judgeShot left h right =
    (s.withPta (s.judgeShot left h right).pta).withRps (s.judgeShot left h right).rps := by
  unfold State.judgeShot
  dsimp only
  split
  · rfl
  · split
    · rfl
    · split
      · split
        · exact offerPoint_kept _ _
        · rfl
      · exact offerPoint_kept _ _

/-- A shot without returns is judged without effect (R71). -/
theorem judgeShot_noReturns (hnone : h.returns = []) : s.judgeShot left h right = s := by
  unfold State.judgeShot
  split
  · rfl
  · rename_i ctx _
    have hkept : select ctx.mode (surviving s.cmu.settings left right h.returns) = [] := by
      rw [hnone]
      cases ctx.mode <;> rfl
    simp only [hkept, List.isEmpty_nil, if_true]

theorem offerPoint_enters {p : PointRecord} (hroom : s.rps.queue.length < 1984) (hfree : s.FreeReport 1) :
    s.offerPoint ctx p = (s.withPta { s.pta with context := some { ctx with offered := ctx.offered + 1 } }).withRps
      (s.rps.plus (.point p)) :=
  (if_pos hroom).trans (State.enter_free (k := 0) (.point p) hfree)

theorem offerPoint_refused {p : PointRecord} (hfull : 1984 ≤ s.rps.queue.length) :
    s.offerPoint ctx p = s.withPta { s.pta with
      context := some (PointContext.markDirty { ctx with offered := ctx.offered + 1 } .refused p.index) } :=
  if_neg (Nat.not_lt.2 hfull)

end

/-- Settles O24. -/
theorem pointOffered : Obligations.PointOffered := by
  refine ⟨?_, fun p => ⟨point_layout p, point_return p, point_colour p⟩⟩
  intro s ctx left right h hctx kept thin point
  have hkept : select ctx.mode (surviving s.cmu.settings left right h.returns) = kept := by rw [surviving_eq]
  refine ⟨fun hnone => judgeShot_none hctx (hkept.trans hnone), fun hsome hthin hodd =>
    judgeShot_thinned hctx (hkept ▸ hsome) hthin hodd, fun hsome heven => ⟨fun hroom hfree => ?_, fun hfull => ?_⟩⟩
  · rw [judgeShot_offers hctx (hkept ▸ hsome) heven, offerPoint_enters hroom hfree, hkept]
    rfl
  · rw [judgeShot_offers hctx (hkept ▸ hsome) heven, offerPoint_refused hfull]
    rfl

end Sys2Proof.Proofs.Points

/-! Echo set transfers, the sets that close no shot, and the shot that a set closes (O19, O20, O29). -/

namespace Sys2Proof.Proofs.Echoes

open Sys2Proof.Machine Sys2Proof.Proofs.Effects Sys2Proof.Proofs.Abandon Sys2Proof.Proofs.Layout Sys2Proof.Proofs.Points

/-! ## Transfers -/

section
variable {s : State}

theorem takeTransfers_none (n : Nat) (h : parseTransfer s.rgu.transfer = none) : s.takeTransfers n = s := by
  cases n with
  | zero => rfl
  | succ n => simp only [State.takeTransfers, h]

/-- RGU with the bytes of a transfer in progress. -/
def holding (s : State) (bytes : List Byte) : State := s.withRgu { s.rgu with transfer := bytes }

theorem parseTransfer_length {bs rest : List Byte} {e : EchoSet} (h : parseTransfer bs = some (e, rest)) : 2 ≤ bs.length := by
  unfold parseTransfer at h
  split at h
  · rename_i hlength
    exact hlength.1
  · cases h

/-- A transfer of one whole set: the set is taken, and nothing is left of the transfer (R38). -/
theorem echoSet_whole {bs : List Byte} {e : EchoSet} {t : State} (hparse : parseTransfer bs = some (e, []))
    (ht : (holding s []).completeSet e = t) (hrest : t.rgu.transfer = []) : effect (.echoSet ⟨true, bs⟩) s = t := by
  obtain ⟨n, hn⟩ : ∃ n, bs.length = n + 1 := ⟨bs.length - 1, by have := parseTransfer_length hparse; omega⟩
  have hround : (holding s bs).takeTransfers (n + 1) = t.takeTransfers n := by
    simp only [State.takeTransfers, holding, State.withRgu_rgu, hparse, State.withRgu_withRgu]
    exact congrArg (State.takeTransfers n) ht
  have hnone : parseTransfer t.rgu.transfer = none := by rw [hrest]; rfl
  have heffect : effect (.echoSet ⟨true, bs⟩) s = (holding s bs).takeTransfers bs.length := rfl
  rw [heffect, hn, hround, takeTransfers_none n hnone]

theorem strictlyIncreasing_iff (es : List Echo) : strictlyIncreasing es = true ↔ (es.map (·.tof)).Pairwise (· < ·) := by
  rw [← List.isChain_iff_pairwise]
  induction es with
  | nil => simp [strictlyIncreasing]
  | cons x xs ih =>
    cases xs with
    | nil => simp [strictlyIncreasing]
    | cons y ys => simp [strictlyIncreasing, List.isChain_cons_cons] at ih ⊢; intro; exact ih

theorem splitAtTag_none {tag : Nat} {shots : List Shot} (h : ∀ sh ∈ shots, sh.tag ≠ tag) : splitAtTag tag shots = none := by
  induction shots with
  | nil => rfl
  | cons sh rest ih =>
    obtain ⟨hsh, hrest⟩ := List.forall_mem_cons.1 h
    rw [splitAtTag, if_neg hsh, ih hrest]
    rfl

theorem splitAtTag_first {tag : Nat} {older younger : List Shot} {sh : Shot} (hold : ∀ x ∈ older, x.tag ≠ tag)
    (hsh : sh.tag = tag) : splitAtTag tag (older ++ sh :: younger) = some (older, sh, younger) := by
  induction older with
  | nil => exact if_pos hsh
  | cons x xs ih =>
    obtain ⟨hx, hxs⟩ := List.forall_mem_cons.1 hold
    rw [List.cons_append, splitAtTag, if_neg hx, ih hxs]
    rfl

/-- A set that closes no shot raises its slip and nothing else. -/
theorem completeSet_slips {e : EchoSet} {cause : SlipCause} (hrun : s.cmu.device = .running)
    (hset : s.takeSet e = (s.raise (.echoSlip cause e.tag), none)) (hfree : s.FreeReport 1) :
    s.completeSet e = s.withRps (s.rps.plusEvent s.cmu.settings s.time (.echoSlip cause e.tag)) := by
  rw [State.completeSet, if_pos hrun, hset]
  exact State.raise_free (k := 0) _ hfree

theorem takeSet_format {e : EchoSet} (h : e.count = 7) : s.takeSet e = (s.raise (.echoSlip .format e.tag), none) := if_pos h

theorem takeSet_order {e : EchoSet} (h : e.count ≠ 7) (horder : ¬(e.echoes.map (·.tof)).Pairwise (· < ·)) :
    s.takeSet e = (s.raise (.echoSlip .order e.tag), none) := by
  rw [← strictlyIncreasing_iff, Bool.not_eq_true] at horder
  rw [State.takeSet, if_neg h, if_pos horder]

theorem not_disordered {e : EchoSet} (horder : (e.echoes.map (·.tof)).Pairwise (· < ·)) :
    ¬strictlyIncreasing e.echoes = false := by
  rw [(strictlyIncreasing_iff _).2 horder]
  exact Bool.noConfusion

theorem takeSet_unmatched {e : EchoSet} (h : e.count ≠ 7) (horder : (e.echoes.map (·.tof)).Pairwise (· < ·))
    (hnone : ∀ sh ∈ s.rgu.openShots, sh.tag ≠ e.tag) : s.takeSet e = (s.raise (.echoSlip .unmatched e.tag), none) := by
  rw [State.takeSet, if_neg h, if_neg (not_disordered horder), splitAtTag_none hnone]

/-- A set in form goes to the first open shot that bears its tag. -/
theorem takeSet_closes {e : EchoSet} {older younger : List Shot} {sh : Shot} (h : e.count ≠ 7)
    (horder : (e.echoes.map (·.tof)).Pairwise (· < ·)) (hshots : s.rgu.openShots = older ++ sh :: younger)
    (hold : ∀ x ∈ older, x.tag ≠ e.tag) (hsh : sh.tag = e.tag) : s.takeSet e = s.closeBySet e older sh younger := by
  rw [State.takeSet, if_neg h, if_neg (not_disordered horder), hshots, splitAtTag_first hold hsh]

end

/-- Settles O20: a slip, or a set discarded, leaves no transfer; parts make the transfer that one piece makes. -/
theorem echoSetsTurnedAway : Obligations.EchoSetsTurnedAway := by
  constructor
  · intro s bs e hp hparse hfree taken
    have hslip : ∀ cause, s.cmu.device = .running →
        (holding s []).takeSet e = ((holding s []).raise (.echoSlip cause e.tag), none) →
        exec (.echoSet ⟨true, bs⟩) s =
          .next (taken.withRps (s.rps.plusEvent s.cmu.settings s.time (.echoSlip cause e.tag))) :=
      fun cause hrun hset => exec_next hp (echoSet_whole hparse (completeSet_slips hrun hset hfree) rfl)
    refine ⟨fun hstopped => exec_next hp (echoSet_whole hparse (if_neg hstopped) rfl), fun hrun => ⟨fun h => ?_, fun h horder => ?_,
      fun h horder hunmatched => ?_⟩⟩
    · exact hslip .format hrun (takeSet_format h)
    · exact hslip .order hrun (takeSet_order h horder)
    · exact hslip .unmatched hrun (takeSet_unmatched h horder hunmatched)
  · intro s first rest hp
    refine ⟨fun hnone => exec_next hp ?_, fun hpart => exec_next hp ?_, fun hpart hsome t ht => ?_⟩
    · have hbytes : s.rgu.received false rest = [] := by simp [Rgu.received, hnone]
      show (holding s (s.rgu.received false rest)).takeTransfers (s.rgu.received false rest).length = s
      rw [hbytes]
      show s.withRgu { s.rgu with transfer := [] } = s
      rw [← hnone]
      rfl
    · exact takeTransfers_none (s := holding s first) first.length hpart
    · have hheld : exec (.echoSet ⟨true, first⟩) s = .next (holding s first) :=
        exec_next hp (takeTransfers_none (s := holding s first) first.length hpart)
      cases Host.Outcome.next.inj (ht.symm.trans hheld)
      rw [exec_eq_effect _ hp, exec_eq_effect (s := holding s first) _ hp]
      have hbytes : (holding s first).rgu.received false rest = first ++ rest := by
        cases first with
        | nil => exact absurd rfl hsome
        | cons b bs => rfl
      show Host.Outcome.next ((holding (holding s first) ((holding s first).rgu.received false rest)).takeTransfers
        ((holding s first).rgu.received false rest).length) = _
      rw [hbytes]
      rfl

/-! ## A set that closes its shot -/

/-- The transfer of a set in its ranges is read back (R219). -/
theorem parseTransfer_bytes {e : EchoSet} (htag : e.tag < 256) (hcount : e.count = e.echoes.length) (hfew : e.count ≤ 6)
    (hranges : ∀ x ∈ e.echoes, x.tof < 2 ^ 20 ∧ x.amplitude < 4096) : parseTransfer e.bytes = some (e, []) := by
  have hannounced : announcedEchoes e.bytes = e.count := by
    simp [announcedEchoes, EchoSet.bytes]
    omega
  have htagField : field e.bytes 0 1 = e.tag := by
    simp [EchoSet.bytes]
    omega
  have hechoes := parseEchoes_bytes e.echoes hranges []
  rw [List.append_nil, ← hcount] at hechoes
  have hlength : e.bytes.length = 2 + 4 * e.count := by
    simp only [EchoSet.bytes, List.length_append, le_length, echoes_length, hcount]
  have hbody : e.bytes.drop 2 = e.echoes.flatMap fun x => le 4 (x.tof + 1048576 * x.amplitude) := rfl
  rw [parseTransfer, hannounced, if_pos ⟨by omega, hlength.ge⟩, htagField, hbody, hechoes, List.drop_of_length_le hlength.le]

/-- The range chain of one echo, as the statement spells it (R50, R51, R53). -/
theorem returnOf_eq (c : Settings) (x : Rgu) (e : Echo) : x.returnOf c e =
    (let tc := (e.tof : Int) - x.range.zero - walkOf x.walk e.amplitude
     let range := (tc.toNat * x.effectiveScale + 32768) / 65536
     if 0 < tc ∧ c.minRange ≤ range ∧ range ≤ c.maxRange then some (Return.mk range e.amplitude) else none) := by
  unfold Rgu.returnOf Rgu.rangeOf
  by_cases htc : correctedTof x e ≤ 0
  · simp only [if_pos htc]
    exact (if_neg fun h => absurd h.1 (Int.not_lt.2 htc)).symm
  · simp only [if_neg htc, inGate, decide_eq_true_eq]
    refine if_congr ?_ rfl rfl
    exact (and_iff_right (Int.not_le.1 htc)).symm

theorem returns_Returns (c : Settings) (x : Rgu) (es : List Echo) : x.Returns c es (x.returns c es) := by
  obtain ⟨hsorted, hfilter⟩ := foldl_insertReturn (es.filterMap (x.returnOf c)) [] List.Pairwise.nil
  refine ⟨hsorted, fun r => (hfilter r).trans ?_⟩
  rw [List.nil_append, List.filterMap_congr fun e _ => returnOf_eq c x e]

/-- No hit is raised where no watched echo lies below the proximity limit (R52). -/
theorem hitOf_none {c : Settings} {x : Rgu} {sh : Shot} {es : List Echo}
    (h : ∀ w, x.record = some w → w.line = sh.line → w.attempt = sh.attempt → w.watch = true → w.hitRaised = false →
      ∀ y ∈ es, ∀ tc : Int, tc = (y.tof : Int) - x.range.zero - walkOf x.walk y.amplitude → 0 < tc →
        c.proximityLimit ≤ (tc.toNat * x.effectiveScale + 32768) / 65536) : x.hitOf c sh es = none := by
  unfold Rgu.hitOf
  cases hrecord : x.record with
  | none => rfl
  | some w =>
    by_cases hwatches : w.watches sh = true
    · have hw : ((w.watch = true ∧ w.hitRaised = false) ∧ w.line = sh.line) ∧ w.attempt = sh.attempt := by
        simpa [RangeRecord.watches] using hwatches
      obtain ⟨⟨⟨hwatch, hraised⟩, hline⟩, hattempt⟩ := hw
      have hfar := h w hrecord hline hattempt hwatch hraised
      have hnone : (es.filterMap x.rangeOf).find? (fun r => decide (r < c.proximityLimit)) = none := by
        refine List.find?_eq_none.2 fun r hr hnear => ?_
        obtain ⟨y, hy, hrange⟩ := List.mem_filterMap.1 hr
        unfold Rgu.rangeOf at hrange
        split at hrange
        · cases hrange
        · rename_i htc
          have hlimit := hfar y hy _ rfl (Int.not_le.1 htc)
          cases hrange
          exact absurd (of_decide_eq_true hnear) (Nat.not_lt.2 hlimit)
      simp [hwatches, hnone]
    · simp [hwatches]

section
variable {s : State} {q : PointContext}

/-- A set that raises no hit hands its shot to PTA (R42), the shots before it closed as missing. -/
theorem closeBySet_noHit {e : EchoSet} {older younger : List Shot} {sh : Shot} {t : State}
    (ht : (s.withRgu { s.rgu with openShots := younger }).closeAllMissing older = t)
    (hhit : t.rgu.hitOf t.cmu.settings sh (e.echoes.take 4) = none) :
    s.closeBySet e older sh younger =
      (t.ptaTake ⟨sh, false, decide (4 < e.echoes.length), t.rgu.returns t.cmu.settings (e.echoes.take 4)⟩, none) := by
  simp only [State.closeBySet, ht, hhit, Rgu.hitTaken, State.withRgu_self]

/-- A shot that is not missing enters the window (R58, R59). -/
theorem ptaTake_admits {c : ClosedShot} (hq : s.pta.context = some q) (hline : c.shot.line = q.line)
    (hattempt : c.shot.attempt = q.attempt) (hwhole : c.missing = false) : s.ptaTake c = s.ptaAdmit c := by
  have hkept : s.withPta { s.pta with context := some q } = s := by
    rw [← hq]
    rfl
  simp only [State.ptaTake, hq, hline, hattempt, and_self, if_true, hwhole, Bool.false_eq_true, if_false]
  rw [hkept]

theorem ptaAdmit_held {c h : ClosedShot} (hheld : s.pta.held = some h) : s.ptaAdmit c =
    (s.judgeShot s.pta.predecessor h (some c)).withPta
      { (s.judgeShot s.pta.predecessor h (some c)).pta with predecessor := some h, held := some c } := by
  simp only [State.ptaAdmit, hheld]

theorem ptaAdmit_empty {c : ClosedShot} (hheld : s.pta.held = none) :
    s.ptaAdmit c = s.withPta { s.pta with held := some c } := by
  simp only [State.ptaAdmit, hheld]

end

/-- Settles O19: by what PTA holds and whether an older shot stands open. -/
theorem echoesBecomeShot : Obligations.EchoesBecomeShot := by
  intro s e older sh younger q hp hrun htag hcount hfew hranges horder hshots hold hsh hfar hq hline hattempt
  refine ⟨s.rgu.returns s.cmu.settings (e.echoes.take 4), returns_Returns _ _ _, ?_⟩
  intro closed taken
  have hcomplete : ∀ t u : State, (taken.closeAllMissing older) = t → t.rgu = taken.rgu → t.cmu = s.cmu →
      t.ptaTake closed = u → u.rgu.transfer = [] → exec (.echoSet ⟨true, e.bytes⟩) s = .next u := by
    intro t u ht hrgu hcmu hu hrest
    have hhit : t.rgu.hitOf t.cmu.settings sh (e.echoes.take 4) = none := by
      rw [hrgu, hcmu]
      exact hitOf_none hfar
    have hclosed := closeBySet_noHit (s := holding s []) (e := e) ht hhit
    rw [← hcount, hrgu, hcmu] at hclosed
    refine exec_next hp (echoSet_whole (parseTransfer_bytes htag hcount hfew hranges) ?_ hrest)
    rw [State.completeSet, if_pos (show (holding s []).cmu.device = .running from hrun),
      takeSet_closes (s := holding s []) (by omega) horder hshots hold hsh, hclosed]
    exact hu
  refine ⟨fun hfirst hheld => ?_, fun hfirst h t hheld ht => ?_, fun x hfirst hxline hxattempt hheld => ?_⟩
  · subst hfirst
    exact hcomplete taken _ rfl rfl rfl ((ptaTake_admits (s := taken) hq hline hattempt rfl).trans (ptaAdmit_empty hheld)) rfl
  · subst hfirst
    subst ht
    refine hcomplete taken _ rfl rfl rfl ((ptaTake_admits (s := taken) hq hline hattempt rfl).trans (ptaAdmit_held hheld)) ?_
    rw [State.withPta_rgu, judgeShot_kept]
    rfl
  · subst hfirst
    refine hcomplete _ _ (closeMissing_held (s := taken) hq hxline hxattempt hheld) rfl rfl
      ((ptaTake_admits (q := q.missed x.index) rfl hline hattempt rfl).trans (ptaAdmit_held rfl)) ?_ |>.trans ?_
    · rw [judgeShot_noReturns rfl]
      rfl
    · rw [judgeShot_noReturns rfl]
      rfl

/-! ## A set that raises a proximity hit -/

section
variable {s : State} {a : AttemptRecord} {ctx : EmitContext} {hit : ProximityHit}

/-- The announcement of a change of own hold (R116, R162). -/
theorem announceHold_eq (s : State) : s.announceHold = s.withSlc
    (if s.cmu.settings.announceHolds then (s.slc.request s.time .hold).request s.time .beacon else s.slc) := by
  unfold State.announceHold
  split <;> rfl

/-- The part once the attempt is abandoned for a hit, before it is told. -/
def halted (s : State) (record : Record) : State :=
  ((ended s).withPwk { s.pwk with
    state := .halted, attempt := none, attemptNumber := s.pwk.attemptNumber + 1, outgoing := none, attemptLimit := none
    ownHold := some s.time }).withRps (s.rps.plus record)

/-- The blocks that a halt, its records and its frames do not touch. -/
theorem halted_others (s : State) (record : Record) (q : Rps) (x : Slc) :
    (((halted s record).withRps q).withSlc x).anu = s.anu ∧ (((halted s record).withRps q).withSlc x).phc = s.phc ∧
      (((halted s record).withRps q).withSlc x).pru = s.pru ∧ (((halted s record).withRps q).withSlc x).cmu = s.cmu ∧
      (((halted s record).withRps q).withSlc x).cst = s.cst := by
  simp [halted, ended]

/-- The walker halts for a hit that names its open attempt: the attempt is abandoned, own hold set and told (R116). -/
theorem takeHit_halts (hattempt : s.pwk.attempt = some a) (hstate : s.pwk.state = .line) (hline : a.line = hit.line)
    (hnumber : a.attempt = hit.attempt) (hopen : a.ending = false) (hlast : a.attempt ≠ 65535) (hfired : a.fired = none)
    (hctx : s.emt.context = some ctx) (hshots : s.rgu.openShots = []) (hpta : Serves s.pta a) (hfree : s.FreeReport 2) :
    s.takeHit hit = ((halted s (.lineAbandoned a.line a.attempt a.headAzimuth .proximity ctx.fired)).withRps
      ((s.rps.plus (.lineAbandoned a.line a.attempt a.headAzimuth .proximity ctx.fired)).plus
        (.event ⟨.proximityHalt hit.range hit.line hit.attempt, 1, s.time⟩))).withSlc
      (if s.cmu.settings.announceHolds then (s.slc.request s.time .hold).request s.time .beacon else s.slc) := by
  have habandon := abandon_free (reason := .proximity) hshots hopen hlast hpta (hfree.mono (by decide))
  rw [firedOf_open hfired hctx, walkerAbandoned_proximity] at habandon
  have hroom : (halted s (.lineAbandoned a.line a.attempt a.headAzimuth .proximity ctx.fired)).FreeReport 1 :=
    State.FreeReport.plus (s := s) (k := 1) _ hfree
  have hhalts : s.takeHit hit = s.halt hit a := by
    simp only [State.takeHit, hattempt]
    exact if_pos ⟨hstate, hline, hnumber⟩
  rw [hhalts, State.halt, habandon]
  show State.announceHold (State.raise _ (halted s _)) = _
  rw [State.raise_free (k := 0) _ hroom, plusEvent_unmaskable rfl, announceHold_eq]
  rfl

/-- The hit of a watched shot whose set has a ranged echo below the limit (R52). -/
theorem hitOf_first {c : Settings} {x : Rgu} {sh : Shot} {es : List Echo} {w : RangeRecord} {r : Nat}
    (hrecord : x.record = some w) (hwatch : w.watch = true) (hraised : w.hitRaised = false) (hline : w.line = sh.line)
    (hattempt : w.attempt = sh.attempt)
    (hnear : (es.filterMap x.rangeOf).find? (fun y => decide (y < c.proximityLimit)) = some r) :
    x.hitOf c sh es = some ⟨r, sh.line, sh.attempt, sh.fireTime⟩ := by
  simp [Rgu.hitOf, hrecord, RangeRecord.watches, hwatch, hraised, hline, hattempt, hnear]

end

/-- RGU once the oldest and only open shot has raised a hit (R52). -/
def hitRecorded (x : Rgu) : Rgu :=
  { x with openShots := [], record := x.record.map fun r => { r with hitRaised := true } }

/-- A set that raises a hit hands its shot to PTA, which holds it, beside the hit (R38, R42, R52). -/
theorem closeBySet_hits {s : State} {e : EchoSet} {sh : Shot} {q : PointContext} {hit : ProximityHit}
    (hq : s.pta.context = some q) (hline : sh.line = q.line) (hattempt : sh.attempt = q.attempt) (hheld : s.pta.held = none)
    (hhit : s.rgu.hitOf s.cmu.settings sh (e.echoes.take 4) = some hit) : ∃ (x : Rgu) (y : Pta),
      x = { s.rgu with openShots := [], record := x.record } ∧ y.context = some q ∧
      s.closeBySet e [] sh [] = ((s.withRgu x).withPta y, some hit) := by
  have hhit' : (s.withRgu { s.rgu with openShots := [] }).rgu.hitOf s.cmu.settings sh (e.echoes.take 4) = some hit := hhit
  refine ⟨hitRecorded s.rgu, { s.pta with held := some ⟨sh, false, decide (4 < e.echoes.length),
    s.rgu.returns s.cmu.settings (e.echoes.take 4)⟩ }, rfl, hq, ?_⟩
  simp only [State.closeBySet, State.closeAllMissing, State.withRgu_cmu, hhit', Rgu.hitTaken, State.withRgu_withRgu]
  refine Prod.ext ?_ rfl
  exact (ptaTake_admits (c := ⟨sh, false, _, _⟩) (s := s.withRgu (hitRecorded s.rgu)) hq hline hattempt rfl).trans
    (ptaAdmit_empty hheld)

/-- The same set at a part in RUNNING: the walker takes the hit. -/
theorem completeSet_hits {s : State} {e : EchoSet} {sh : Shot} {q : PointContext} {hit : ProximityHit}
    (hrun : s.cmu.device = .running) (hcount : e.count ≠ 7) (horder : (e.echoes.map (·.tof)).Pairwise (· < ·))
    (hshots : s.rgu.openShots = [sh]) (htag : sh.tag = e.tag) (hq : s.pta.context = some q) (hline : sh.line = q.line)
    (hattempt : sh.attempt = q.attempt) (hheld : s.pta.held = none)
    (hhit : s.rgu.hitOf s.cmu.settings sh (e.echoes.take 4) = some hit) : ∃ (x : Rgu) (y : Pta),
      x = { s.rgu with openShots := [], record := x.record } ∧ y.context = some q ∧
      s.completeSet e = ((s.withRgu x).withPta y).takeHit hit := by
  obtain ⟨x, y, hx, hy, hclosed⟩ := closeBySet_hits hq hline hattempt hheld hhit
  refine ⟨x, y, hx, hy, ?_⟩
  rw [State.completeSet, if_pos hrun, takeSet_closes (older := []) (younger := []) hcount horder hshots (by simp) htag, hclosed]
  rfl

/-- Settles O29: the shot is held at PTA, and the walker takes the hit. -/
theorem proximityHalts : Obligations.ProximityHalts := by
  intro s bs e sh a ctx q w r hp hrun hparse hcount horder hshots htag hrecord hwatch hraised hwline hwattempt hstate hattempt
    hline hnumber hlast hopen hfired hctx hq hqline hqattempt hheld hnear hfree
  obtain ⟨x, y, hx, hy, hcomplete⟩ := completeSet_hits (s := holding s []) hrun hcount horder hshots htag hq hqline.symm
    hqattempt.symm hheld (hitOf_first (c := s.cmu.settings) hrecord hwatch hraised hwline hwattempt hnear)
  have hrgu : { x with record := none } = { s.rgu with record := none, openShots := [], transfer := [] } := by
    rw [hx]
    rfl
  have hshots' : x.openShots = [] := by rw [hx]
  have htransfer : x.transfer = [] := by rw [hx]; rfl
  have hserves : Serves y a := .of_context hy (hqline.trans hline.symm) (hqattempt.trans hnumber.symm)
  have hheld' : (ptaAbandoned y).held = none := by rw [ptaAbandoned_of hy]
  have hstate' : holding s [] = s.withRgu (holding s []).rgu := rfl
  rw [hstate', State.withRgu_withRgu] at hcomplete
  have hhalts := takeHit_halts (s := (s.withRgu x).withPta y) (hit := ⟨r, sh.line, sh.attempt, sh.fireTime⟩)
    hattempt hstate hline hnumber hopen hlast hfired hctx hshots' hserves hfree
  exact ⟨_, exec_next hp (echoSet_whole hparse (hcomplete.trans hhalts) htransfer), rfl, rfl, hrgu, ptaAbandoned_context y,
    hheld', rfl, rfl, halted_others _ _ _ _⟩

end Sys2Proof.Proofs.Echoes

/-! A line attempt at a mirror index and at its limit (O25, O26, O28): it opens, ends or is abandoned. -/

namespace Sys2Proof.Proofs.Attempts

open Sys2Proof.Machine Sys2Proof.Proofs.Effects Sys2Proof.Proofs.Encoders Sys2Proof.Proofs.Abandon Sys2Proof.Proofs.Points
open Sys2Proof.Proofs.Layout Sys2Proof.Proofs.ShotPath Sys2Proof.Proofs.Echoes

section
variable {s : State} {p : Nat}

/-! ## The index at ANU -/

/-- An in-range index of a monitor that is OK is handed on with the absence timer restarted (R15). -/
theorem index_inRange (hlow : s.anu.mirror.indexLevel = false) (hok : s.anu.monitor = .ok)
    (hprev : s.anu.previousIndex = some p)
    (hin : s.cmu.settings.periodLow * 100 ≤ s.time - p ∧ s.time - p ≤ s.cmu.settings.periodHigh * 100) :
    effect (.encoderIndex .mirror true) s =
      (s.withAnu { recorded s with absence := some (s.time + s.cmu.settings.absenceTicks) }).walkerIndex := by
  rw [mirrorIndex_eq hlow, mirrorJudged_later hprev, judge_ok_inRange (x := recorded s) hok (judgePeriod_none hin)]
  rfl

/-- The cause of a period out of range, as the statements spell it. -/
def periodCause (s : State) (p : Nat) : MirrorCause :=
  if s.time - p < s.cmu.settings.periodLow * 100 then .short else .long

/-- An index out of range of a monitor that is OK faults it (R16). -/
theorem index_outRange (hlow : s.anu.mirror.indexLevel = false) (hok : s.anu.monitor = .ok)
    (hprev : s.anu.previousIndex = some p)
    (hout : s.time - p < s.cmu.settings.periodLow * 100 ∨ s.cmu.settings.periodHigh * 100 < s.time - p)
    (hfree : s.FreeReport 1) : effect (.encoderIndex .mirror true) s =
      ((s.withAnu { recorded s with monitor := .fault, absence := none, inRangeRun := 0 }).withRps
        (afterIndex s (some (.mirrorFault (periodCause s p) (some ((s.time - p) / 100)))))).walkerIndex := by
  rw [mirrorIndex_eq hlow, raiseOption_free hfree, mirrorJudged_later hprev,
    judge_ok_out (x := recorded s) hok (judgePeriod_some hout)]
  rfl

/-! ## Opening (R104) -/

theorem walkerIndex_waits {g : Segment} (hstate : s.pwk.state = .lineWait) (hsegment : s.pwk.currentSegment = some g) :
    s.walkerIndex = if s.mayOpen then s.openAttempt g else s := by
  simp only [State.walkerIndex, hstate, hsegment]

/-- Without an OK monitor nothing opens. -/
theorem walkerIndex_notOk (hstate : s.pwk.state = .lineWait) (hmonitor : s.anu.monitor ≠ .ok) : s.walkerIndex = s := by
  have hclosed : s.mayOpen = false := by simp [State.mayOpen, hmonitor]
  unfold State.walkerIndex
  rw [hstate]
  dsimp only
  split
  · rw [hclosed]
    rfl
  · rfl

/-- The opening of an attempt with room for its LINE_BEGIN (R26, R44, R57, R104). -/
theorem openAttempt_free (g : Segment) (hfree : s.FreeReport 1) : s.openAttempt g =
    (((((s.withPwk { s.pwk with
      attempt := some ⟨s.pwk.lineCounter, s.pwk.attemptNumber, s.angle .head, s.time, none, false⟩
      attemptLimit := some (s.time + s.cmu.settings.absenceTicks), state := .line }).withRps
      (s.rps.plus (.lineBegin s.pwk.lineCounter s.pwk.attemptNumber s.time (s.angle .head)))).withPta
      { s.pta with
        predecessor := none, held := none
        context := some ⟨s.pwk.lineCounter, s.pwk.attemptNumber, g.mode, none, 0, false⟩ }).withRgu
      { s.rgu with record := some ⟨s.pwk.lineCounter, s.pwk.attemptNumber, g.watch, false⟩ }).withEmt
      { s.emt with context := some ⟨s.pwk.lineCounter, s.pwk.attemptNumber, g.mFrom, g.mTo, g.divisor, 0, 0, false⟩ }) := by
  have henter := State.enter_free (s := s.withPwk { s.pwk with
    attempt := some ⟨s.pwk.lineCounter, s.pwk.attemptNumber, s.angle .head, s.time, none, false⟩ }) (k := 0)
    (.lineBegin s.pwk.lineCounter s.pwk.attemptNumber s.time (s.angle .head)) hfree
  simp only [State.openAttempt, henter]
  rfl

/-- What an index leaves the monitor at in LINE_WAIT where it is not OK after it. -/
theorem judged_notOk (h : (s.anu.monitor ≠ .ok ∧ (s.anu.previousIndex = none ∨ s.anu.inRangeRun < 2)) ∨
    ∃ p, s.anu.previousIndex = some p ∧
      (s.time - p < s.cmu.settings.periodLow * 100 ∨ s.cmu.settings.periodHigh * 100 < s.time - p)) :
    (mirrorJudged s).1.monitor ≠ .ok ∧
      (s.anu.monitor ≠ .ok → (mirrorJudged s).1.monitor = s.anu.monitor ∧ (mirrorJudged s).2 = none) ∧
      ∀ p, s.anu.monitor = .ok → s.anu.previousIndex = some p → (mirrorJudged s).1.monitor = .fault ∧
        (mirrorJudged s).2 = some (.mirrorFault (periodCause s p) (some ((s.time - p) / 100))) := by
  by_cases hok : s.anu.monitor = .ok
  · obtain ⟨p, hprev, hout⟩ := h.resolve_left fun h => h.1 hok
    rw [mirrorJudged_later hprev, judge_ok_out (x := recorded s) hok (judgePeriod_some hout)]
    refine ⟨nofun, fun h => absurd hok h, fun p' _ hp' => ?_⟩
    cases hprev.symm.trans hp'
    exact ⟨rfl, rfl⟩
  · refine (fun hkept : (mirrorJudged s).1.monitor = s.anu.monitor ∧ (mirrorJudged s).2 = none =>
      ⟨hkept.1 ▸ hok, fun _ => hkept, fun _ h => absurd h hok⟩) ?_
    cases hprev : s.anu.previousIndex with
    | none =>
      rw [mirrorJudged_first hprev]
      exact ⟨rfl, rfl⟩
    | some p =>
      rw [mirrorJudged_later hprev]
      by_cases hin : s.cmu.settings.periodLow * 100 ≤ s.time - p ∧ s.time - p ≤ s.cmu.settings.periodHigh * 100
      · have hrun : s.anu.inRangeRun < 2 := by
          rcases h with ⟨-, h | h⟩ | ⟨p', hp', hout⟩
          · cases hprev.symm.trans h
          · exact h
          · cases hprev.symm.trans hp'
            omega
        rw [judge_counting (x := recorded s) hok (judgePeriod_none hin) hrun]
        exact ⟨rfl, rfl⟩
      · rw [judge_notOk_out (x := recorded s) hok (judgePeriod_some (by omega))]
        exact ⟨rfl, rfl⟩

end

/-- Settles O25. -/
theorem attemptOpens : Obligations.AttemptOpens := by
  refine ⟨?_, ?_, lineBegin_layout⟩
  · intro s g p hp hlow hok hprev hlowest hhighest hstate hsegment
    have hindex := index_inRange hlow hok hprev ⟨hlowest, hhighest⟩
    replace hindex := hindex.trans (walkerIndex_waits (s := s.withAnu _) hstate hsegment)
    refine ⟨fun ⟨hposition, hlive, hquiet, hhold, hout⟩ hfree => ?_, fun hclosed => ?_⟩
    · have hmay : (s.withAnu { recorded s with absence := some (s.time + s.cmu.settings.absenceTicks) }).mayOpen = true := by
        have hroom : s.rps.room = true := State.FreeReport.room (k := 0) hfree
        simp [State.mayOpen, hposition, hlive, hquiet, hhold, hout, hroom, recorded, hok]
      replace hindex := (hindex.trans (if_pos hmay)).trans (openAttempt_free (s := s.withAnu _) g hfree)
      refine ⟨_, exec_next hp hindex, hok, ?_, rfl, rfl, rfl, rfl, rfl, rfl, rfl, rfl, rfl⟩
      rw [← absenceTicks_eq]
      rfl
    · have hmay : (s.withAnu { recorded s with absence := some (s.time + s.cmu.settings.absenceTicks) }).mayOpen = false := by
        rcases hclosed with h | h | h | h | h | h
        · simp [State.mayOpen, h]
        · simp [State.mayOpen, h]
        · simp [State.mayOpen, h]
        · simp [State.mayOpen, h]
        · simp [State.mayOpen, Option.isSome_iff_ne_none.1 h]
        · simp [State.mayOpen, Rps.room, queueCapacity, Nat.not_lt.2 h]
      exact ⟨_, exec_next hp (hindex.trans (if_neg (by simp [hmay]))), rfl⟩
  · intro s hp hlow hstate hfree hcondition
    obtain ⟨hnotOk, hkept, hfault⟩ := judged_notOk hcondition
    have hindex : effect (.encoderIndex .mirror true) s =
        (s.withAnu (mirrorJudged s).1).withRps (afterIndex s (mirrorJudged s).2) := by
      rw [mirrorIndex_eq hlow, raiseOption_free hfree]
      exact walkerIndex_notOk hstate hnotOk
    refine ⟨_, exec_next hp hindex, hnotOk, rfl, fun h => ⟨(hkept h).1, ?_⟩, fun p hok hprev => ⟨(hfault p hok hprev).1, ?_⟩⟩
    · rw [(hkept h).2]
      rfl
    · rw [(hfault p hok hprev).2]
      rfl

/-! ## What RGU and PTA do at the end of an attempt (R44, R58 to R63) -/

section
variable {s t u : State} {q : PointContext} {line attempt : Nat}

/-- PTA has worked on an attempt: PTA and the report stream alone changed, and the attempt's context stands. -/
def Assembled (line attempt : Nat) (s t : State) : Prop :=
  t = (s.withPta t.pta).withRps t.rps ∧ ∃ q, t.pta.context = some q ∧ q.line = line ∧ q.attempt = attempt

theorem Assembled.trans (h : Assembled line attempt s t) (h' : Assembled line attempt t u) : Assembled line attempt s u := by
  obtain ⟨hst, -⟩ := h
  obtain ⟨htu, hq⟩ := h'
  refine ⟨htu.trans ?_, hq⟩
  conv_lhs => rw [hst]
  rfl

theorem Assembled.refl (hq : s.pta.context = some q) (hline : q.line = line) (hattempt : q.attempt = attempt) :
    Assembled line attempt s s := ⟨rfl, q, hq, hline, hattempt⟩

theorem judgeShot_assembled (left : Option ClosedShot) (h : ClosedShot) (right : Option ClosedShot)
    (hq : s.pta.context = some q) (hline : q.line = line) (hattempt : q.attempt = attempt) :
    Assembled line attempt s (s.judgeShot left h right) := by
  refine ⟨judgeShot_kept left h right, ?_⟩
  unfold State.judgeShot State.offerPoint State.enter
  simp only [hq]
  split
  · exact ⟨q, hq, hline, hattempt⟩
  · split
    · split
      · split <;> exact ⟨_, rfl, hline, hattempt⟩
      · exact ⟨_, rfl, hline, hattempt⟩
    · split <;> exact ⟨_, rfl, hline, hattempt⟩

theorem ptaAdmit_assembled (c : ClosedShot) (h : Assembled line attempt s t) : Assembled line attempt s (t.ptaAdmit c) := by
  obtain ⟨hst, q, hq, hline, hattempt⟩ := h
  refine Assembled.trans ⟨hst, q, hq, hline, hattempt⟩ ?_
  unfold State.ptaAdmit
  split
  · exact ⟨rfl, q, hq, hline, hattempt⟩
  · rename_i h _
    obtain ⟨hkept, q', hq', hline', hattempt'⟩ := judgeShot_assembled t.pta.predecessor h (some c) hq hline hattempt
    refine ⟨?_, q', hq', hline', hattempt'⟩
    conv_lhs => rw [hkept]
    rfl

theorem closeMissing_assembled (sh : Shot) (h : Assembled line attempt s t) : Assembled line attempt s (t.closeMissing sh) := by
  refine Assembled.trans h ?_
  obtain ⟨-, q, hq, hline, hattempt⟩ := h
  unfold State.closeMissing State.ptaTake
  simp only [hq]
  split
  · exact ptaAdmit_assembled _ ⟨rfl, _, rfl, hline, hattempt⟩
  · exact Assembled.refl hq hline hattempt

theorem closeAllMissing_assembled (shots : List Shot) (h : Assembled line attempt s t) :
    Assembled line attempt s (t.closeAllMissing shots) := by
  induction shots generalizing t with
  | nil => exact h
  | cons sh rest ih => exact ih (closeMissing_assembled sh h)

/-- The report of an attempt that ended (R76). -/
def reportOf (x : PointContext) : FinishReport := ⟨x.line, x.attempt, x.dirty, x.offered, x.thinned⟩

/-- PTA's window as an ended attempt leaves it, the held shot judged with no successor (R61). -/
def judgedLast (s : State) : State :=
  match s.pta.held with
  | none => s
  | some h => s.judgeShot s.pta.predecessor h none

theorem judgedLast_empty (h : s.pta.held = none) : judgedLast s = s := by simp only [judgedLast, h]

theorem judgedLast_held {h : ClosedShot} (hheld : s.pta.held = some h) :
    judgedLast s = s.judgeShot s.pta.predecessor h none := by simp only [judgedLast, hheld]

theorem judgedLast_kept (s : State) : judgedLast s = (s.withPta (judgedLast s).pta).withRps (judgedLast s).rps := by
  unfold judgedLast
  split
  · rfl
  · exact judgeShot_kept _ _ _

theorem ptaEnd_ended (hq : s.pta.context = some q) (hline : q.line = line) (hattempt : q.attempt = attempt) :
    s.ptaEnd .ended line attempt = (s.withPta ⟨none, none, none, (judgedLast s).pta.context.map reportOf⟩).withRps
      (judgedLast s).rps := by
  have hfinish : s.ptaEnd .ended line attempt = s.ptaFinish := by
    simp only [State.ptaEnd, hq, hline, hattempt, and_self, if_true]
  have hlast : s.ptaFinish = (judgedLast s).withPta ⟨none, none, none, (judgedLast s).pta.context.map reportOf⟩ := rfl
  rw [hfinish, hlast]
  conv_lhs => rw [judgedLast_kept]
  rfl

/-- A judgement depends on PTA, the report stream, the catalogue and the settings alone. -/
theorem judgeShot_congr {left right : Option ClosedShot} {h : ClosedShot} (hpta : t.pta = s.pta) (hrps : t.rps = s.rps)
    (hphc : t.phc = s.phc) (hcmu : t.cmu = s.cmu) (htime : t.time = s.time) :
    (t.judgeShot left h right).pta = (s.judgeShot left h right).pta ∧
      (t.judgeShot left h right).rps = (s.judgeShot left h right).rps := by
  unfold State.judgeShot State.offerPoint State.enter
  simp only [hpta, hrps, hphc, hcmu]
  split
  · exact ⟨hpta, hrps⟩
  · split
    · exact ⟨hpta, hrps⟩
    · split
      · split
        · split <;> simp [hrps, hcmu, htime]
        · exact ⟨rfl, hrps⟩
      · split <;> simp [hrps, hcmu, htime]

theorem judgedLast_congr (hpta : t.pta = s.pta) (hrps : t.rps = s.rps) (hphc : t.phc = s.phc) (hcmu : t.cmu = s.cmu)
    (htime : t.time = s.time) :
    (judgedLast t).pta = (judgedLast s).pta ∧ (judgedLast t).rps = (judgedLast s).rps := by
  unfold judgedLast
  rw [hpta]
  split
  · exact ⟨hpta, hrps⟩
  · exact judgeShot_congr hpta hrps hphc hcmu htime

/-- The end notices of an attempt that ended at an index: every part is closed, and the finish report tells what PTA had once
the open shots were closed as missing and the held shot was judged (R44, R61, R106). -/
theorem endNotices_index {a : AttemptRecord} (hq : s.pta.context = some q) (hline : q.line = a.line)
    (hattempt : q.attempt = a.attempt) :
    ∃ v, Assembled a.line a.attempt (s.closeNotice.withRgu { s.rgu with openShots := [] }) v ∧
      v = (s.closeNotice.withRgu { s.rgu with openShots := [] }).closeAllMissing s.rgu.openShots ∧
      s.endNotices .ended a = (((((s.withPwk { s.pwk with attemptLimit := none }).withEmt
        { s.emt with context := none, keptFired := none }).withRgu { s.rgu with openShots := [], record := none }).withPta
        ⟨none, none, none, (judgedLast v).pta.context.map reportOf⟩).withRps (judgedLast v).rps) := by
  have hv := closeAllMissing_assembled s.rgu.openShots
    (Assembled.refl (s := s.closeNotice.withRgu { s.rgu with openShots := [] }) hq hline hattempt)
  refine ⟨_, hv, rfl, ?_⟩
  generalize hvdef : (s.closeNotice.withRgu { s.rgu with openShots := [] }).closeAllMissing s.rgu.openShots = v at hv ⊢
  obtain ⟨hkept, q', hq', hline', hattempt'⟩ := hv
  have hend := ptaEnd_ended hq' hline' hattempt'
  have hnotices : s.endNotices .ended a =
      (v.ptaEnd .ended a.line a.attempt).withRgu { (v.ptaEnd .ended a.line a.attempt).rgu with record := none } := by
    rw [← hvdef]
    rfl
  rw [hnotices, hend]
  generalize (judgedLast v).rps = r
  generalize (judgedLast v).pta.context.map reportOf = f
  rw [hkept]
  rfl

end

/-! ## An index in LINE (R106) -/

section
variable {s : State} {a : AttemptRecord}

/-- An open attempt abandoned for the mirror while no shot is open (R106, R107, R109). -/
theorem abandon_mirror {ctx : EmitContext} {q : PointContext} (hopen : a.ending = false) (hfired : a.fired = none)
    (hlast : a.attempt ≠ 65535) (hctx : s.emt.context = some ctx) (hshots : s.rgu.openShots = [])
    (hq : s.pta.context = some q) (hline : q.line = a.line) (hnumber : q.attempt = a.attempt) (hfree : s.FreeReport 1) :
    s.abandon .mirror a = (((((s.withEmt { s.emt with context := none, keptFired := none }).withRgu
      { s.rgu with record := none }).withPta { s.pta with predecessor := none, held := none, context := none }).withPwk
      { s.pwk with
        state := if s.pwk.pausePending then .paused else .lineWait
        pausePending := false
        attempt := none
        attemptNumber := s.pwk.attemptNumber + 1
        outgoing := none
        attemptLimit := none }).withRps (s.rps.plus (.lineAbandoned a.line a.attempt a.headAzimuth .mirror ctx.fired))) := by
  rw [abandon_free hshots hopen hlast (Serves.of_context hq hline hnumber) hfree,
    walkerAbandoned_other (reason := .mirror) nofun, ended, ptaAbandoned_of hq, firedOf_open hfired hctx]
  rfl

theorem walkerIndex_ends (hstate : s.pwk.state = .line) (hattempt : s.pwk.attempt = some a) (hopen : a.ending = false)
    (hok : s.anu.monitor = .ok) : s.walkerIndex = s.endAttempt a := by
  simp only [State.walkerIndex, hstate, hattempt, hopen, hok, Bool.false_eq_true, if_false, if_true]

theorem walkerIndex_abandons (hstate : s.pwk.state = .line) (hattempt : s.pwk.attempt = some a) (hopen : a.ending = false)
    (hok : s.anu.monitor ≠ .ok) : s.walkerIndex = s.abandon .mirror a := by
  simp only [State.walkerIndex, hstate, hattempt, hopen, hok, Bool.false_eq_true, if_false]

/-- The state in which an index's end notices are given. -/
def ending (s : State) (a : AttemptRecord) (x : Anu) (n : Nat) : State :=
  (s.withAnu x).withPwk { s.pwk with attempt := some { a with fired := some n, ending := true } }

/-- A missing shot of the open attempt has no return to judge (R45, R71). -/
theorem judgedLast_missed {x : Shot} {q : PointContext} :
    judgedLast (s.withPta { s.pta with held := some x.missed, context := some q }) =
      s.withPta { s.pta with held := some x.missed, context := some q } :=
  (judgedLast_held (s := s.withPta _) rfl).trans (judgeShot_noReturns (h := x.missed) rfl)

end

/-- Settles O26. -/
theorem attemptEnds : Obligations.AttemptEnds := by
  intro s a ctx q p hp hlow hok hprev hstate hattempt hopen hctx hq hline hnumber
  refine ⟨fun hlowest hhighest => ?_, fun hout hrun hfired hlast hshots hfree => ?_⟩
  · have hindex := (index_inRange hlow hok hprev ⟨hlowest, hhighest⟩).trans
      (walkerIndex_ends (s := s.withAnu _) hstate hattempt hopen hok)
    have hcount : s.emt.closeCount = ctx.fired := by simp only [Emt.closeCount, hctx]
    generalize hx : ({ recorded s with absence := some (s.time + s.cmu.settings.absenceTicks) } : Anu) = x at hindex
    have hending : (s.withAnu x).endAttempt a = (ending s a x ctx.fired).endNotices .ended a := by
      rw [← hcount]
      rfl
    obtain ⟨v, ⟨hkept, -⟩, hv, hnotices⟩ := endNotices_index (s := ending s a x ctx.fired) hq hline hnumber
    refine ⟨_, exec_next hp (hindex.trans (hending.trans hnotices)), rfl, rfl, rfl, rfl, rfl, rfl, ?_, ?_, ?_,
      rfl, rfl, rfl, rfl, rfl⟩
    · intro hshots hheld
      have hvs : v = (ending s a x ctx.fired).closeNotice.withRgu { s.rgu with openShots := [] } := by
        rw [hv]
        exact congrArg (fun l => State.closeAllMissing l _) hshots
      have hempty : judgedLast v = v := judgedLast_empty (by rw [hvs]; exact hheld)
      simp only [State.withRps_rps, State.withRps_pta, State.withPta_pta, hempty]
      rw [hvs]
      refine ⟨rfl, ?_⟩
      show s.pta.context.map reportOf = _
      rw [hq, ← hline, ← hnumber]
      rfl
    · intro hshots h u hheld hu
      have hvs : v = (ending s a x ctx.fired).closeNotice.withRgu { s.rgu with openShots := [] } := by
        rw [hv]
        exact congrArg (fun l => State.closeAllMissing l _) hshots
      obtain ⟨hpta, hrps⟩ := judgedLast_congr (s := s) (t := v) (by rw [hvs]; rfl) (by rw [hvs]; rfl) (by rw [hvs]; rfl)
        (by rw [hvs]; rfl) (by rw [hvs]; rfl)
      have hlastJudged : judgedLast s = u := (judgedLast_held hheld).trans hu.symm
      simp only [State.withRps_rps, State.withRps_pta, State.withPta_pta, hpta, hrps, hlastJudged, true_and]
      rfl
    · intro y hshots hyline hynumber hheld
      have hvs : v = ((ending s a x ctx.fired).closeNotice.withRgu { s.rgu with openShots := [] }).withPta
          { s.pta with held := some y.missed, context := some (q.missed y.index) } := by
        rw [hv]
        refine (congrArg (fun l => State.closeAllMissing l _) hshots).trans ?_
        exact closeMissing_held (s := (ending s a x ctx.fired).closeNotice.withRgu { s.rgu with openShots := [] }) hq
          (hyline.trans hline.symm) (hynumber.trans hnumber.symm) hheld
      have hjudged : judgedLast v = v := by
        rw [hvs]
        exact judgedLast_missed
      simp only [State.withRps_rps, State.withRps_pta, State.withPta_pta, hjudged]
      rw [hvs, ← hline, ← hnumber]
      exact ⟨rfl, rfl⟩
  · have hindex := (index_outRange hlow hok hprev hout (hfree.mono (by omega))).trans
      (walkerIndex_abandons (s := (s.withAnu _).withRps _) hstate hattempt hopen nofun)
    have hraised : afterIndex s (some (.mirrorFault (periodCause s p) (some ((s.time - p) / 100)))) =
        s.rps.plusEvent s.cmu.settings s.time (.mirrorFault (periodCause s p) (some ((s.time - p) / 100))) := if_pos hrun
    rw [hraised] at hindex
    have habandon := abandon_mirror
      (s := (s.withAnu { recorded s with monitor := .fault, absence := none, inRangeRun := 0 }).withRps _)
      hopen hfired hlast hctx hshots hq hline hnumber
      (hfree.plusEvent (.mirrorFault (periodCause s p) (some ((s.time - p) / 100))))
    exact ⟨_, exec_next hp (hindex.trans habandon), rfl, rfl⟩

/-! ## Attempts that are abandoned -/

section
variable {s u : State} {q q' : PointContext} {left right : Option ClosedShot} {h : ClosedShot} {p : PointRecord}

theorem plus_ne (q : Rps) (r : Record) : q ≠ q.plus r := fun hq => by
  have hlength := congrArg (fun x => x.queue.length) hq
  simp [Rps.plus] at hlength

theorem plus_inj {q : Rps} {r r' : Record} (hq : q.plus r = q.plus r') : r = r' := by
  have hqueue := congrArg (fun x => x.queue) hq
  simpa [Rps.plus] using hqueue

/-- A judgement that enters a point enters the same one wherever mode, settings, catalogue and thinning are the same and there
is room. -/
theorem judgeShot_offered (hctx : s.pta.context = some q) (hctx' : u.pta.context = some q') (hmode : q'.mode = q.mode)
    (hphc : u.phc = s.phc) (hcmu : u.cmu = s.cmu) (hthin : u.rps.thinning = s.rps.thinning)
    (hroom : s.rps.queue.length < 1984) (hroom' : u.rps.queue.length < 1984) (hfree : s.FreeReport 1) (hfree' : u.FreeReport 1)
    (hoffer : (s.judgeShot left h right).rps = s.rps.plus (.point p)) :
    ∃ x : PointContext, x.line = q'.line ∧ x.attempt = q'.attempt ∧
      u.judgeShot left h right = (u.withPta { u.pta with context := some x }).withRps (u.rps.plus (.point p)) := by
  have hsome : select q.mode (surviving s.cmu.settings left right h.returns) ≠ [] := fun hnone => by
    rw [judgeShot_none hctx hnone] at hoffer
    exact plus_ne _ _ hoffer
  have heven : s.rps.thinning = true → h.shot.index % 2 = 0 := fun hthinning => by
    by_contra hodd
    rw [judgeShot_thinned hctx hsome hthinning (by omega)] at hoffer
    exact plus_ne _ _ hoffer
  rw [judgeShot_offers hctx hsome heven, offerPoint_enters hroom hfree] at hoffer
  have hpoint := plus_inj hoffer
  rw [judgeShot_offers hctx' (by rw [hmode, hcmu]; exact hsome) (by rw [hthin]; exact heven), offerPoint_enters hroom' hfree',
    hmode, hcmu, hphc, hthin, hpoint]
  exact ⟨{ q' with mode := q.mode, offered := q'.offered + 1, thinned := q'.thinned || s.rps.thinning }, rfl, rfl, rfl⟩

/-- A missing shot of the open attempt dirties it and enters the window (R59, R60). -/
theorem closeMissing_admits {x : Shot} (hctx : s.pta.context = some q) (hline : x.line = q.line)
    (hnumber : x.attempt = q.attempt) : s.closeMissing x =
      (s.withPta { s.pta with context := some (q.missed x.index) }).ptaAdmit x.missed := by
  simp only [State.closeMissing, State.ptaTake, hctx, hline, hnumber, and_self, if_true]
  rfl

/-- RGU's flush of one open shot at an abandonment, with a shot held whose judgement enters a point (R44, R60, R62). -/
theorem rguEnd_offers {a : AttemptRecord} {x : Shot} (hshots : u.rgu.openShots = [x]) (hxline : x.line = a.line)
    (hxnumber : x.attempt = a.attempt) (hctx : s.pta.context = some q) (hpta : u.pta = s.pta) (hline : q.line = a.line)
    (hnumber : q.attempt = a.attempt) (hheld : s.pta.held = some h) (hphc : u.phc = s.phc) (hcmu : u.cmu = s.cmu)
    (hthin : u.rps.thinning = s.rps.thinning) (hroom : s.rps.queue.length < 1984) (hroom' : u.rps.queue.length < 1984)
    (hfree : s.FreeReport 1) (hfree' : u.FreeReport 1)
    (hoffer : (s.judgeShot s.pta.predecessor h (some x.missed)).rps = s.rps.plus (.point p)) :
    u.rguEnd .abandoned a.line a.attempt = ((u.withRgu { u.rgu with openShots := [], record := none }).withPta
      { s.pta with predecessor := none, held := none, context := none }).withRps (u.rps.plus (.point p)) := by
  have hctxu : u.pta.context = some q := hpta ▸ hctx
  obtain ⟨y, hyline, hynumber, hjudged⟩ := judgeShot_offered
    (u := (u.withRgu { u.rgu with openShots := [] }).withPta { u.pta with context := some (q.missed x.index) })
    (q' := q.missed x.index) hctx rfl rfl hphc hcmu hthin hroom hroom' hfree hfree' hoffer
  have hclosed : (u.withRgu { u.rgu with openShots := [] }).closeMissing x =
      ((u.withRgu { u.rgu with openShots := [] }).withPta
        { u.pta with predecessor := some h, held := some x.missed, context := some y }).withRps (u.rps.plus (.point p)) := by
    have hmarked := closeMissing_admits (s := u.withRgu { u.rgu with openShots := [] }) hctxu (hxline.trans hline.symm)
      (hxnumber.trans hnumber.symm)
    have hadmitted := ptaAdmit_held (c := x.missed) (h := h)
      (s := (u.withRgu { u.rgu with openShots := [] }).withPta { u.pta with context := some (q.missed x.index) })
      (by rw [← hheld, ← hpta]; rfl)
    rw [← hpta] at hjudged
    exact hmarked.trans (hadmitted.trans
      (congrArg (fun v => v.withPta { v.pta with predecessor := some h, held := some x.missed }) hjudged))
  have hserves : Serves ({ u.pta with predecessor := some h, held := some x.missed, context := some y } : Pta) a :=
    Serves.of_context rfl (hyline.trans hline) (hynumber.trans hnumber)
  have hpassed := ptaEnd_abandoned (s := ((u.withRgu { u.rgu with openShots := [] }).withPta
    { u.pta with predecessor := some h, held := some x.missed, context := some y }).withRps (u.rps.plus (.point p))) hserves
  simp only [State.rguEnd, hshots, State.closeAllMissing, hclosed, hpassed]
  rw [← hpta]
  rfl

end

section
variable {s : State} {a : AttemptRecord}

/-- The finish report of the ending attempt is judged (R108). -/
theorem finishReport_judges {r : FinishReport} (hreport : s.pta.report = some r) (hattempt : s.pwk.attempt = some a)
    (hending : a.ending = true) (hline : a.line = r.line) (hnumber : a.attempt = r.attempt) (hstate : s.pwk.state = .line) :
    effect .finishReport s = (s.withPta { s.pta with report := none }).judgeAttempt a r := by
  show finishReportAct s = _
  have hnamed : a.ending = true ∧ a.line = r.line ∧ a.attempt = r.attempt ∧ s.pwk.state = .line :=
    ⟨hending, hline, hnumber, hstate⟩
  simp only [finishReportAct, hreport, hattempt]
  exact if_pos hnamed

/-- The walker once one more attempt of its line is counted. -/
theorem countAttempt_eq {x : Pwk} {c : SegmentContext} (hsegment : x.segment = some c) :
    x.countAttempt = { x with segment := some { c with counted := c.counted + 1 } } := by
  simp [Pwk.countAttempt, hsegment]

theorem counted_countAttempt {x : Pwk} {c : SegmentContext} (hsegment : x.segment = some c) :
    x.countAttempt.counted = c.counted + 1 := by
  simp [Pwk.counted, countAttempt_eq hsegment]

theorem retryLimit_countAttempt {x : Pwk} {c : SegmentContext} {g : Segment} (hsegment : x.segment = some c)
    (hrecord : x.record c.record = .segment g) : x.countAttempt.retryLimit = g.retryLimit := by
  rw [countAttempt_eq hsegment, Pwk.retryLimit, Pwk.currentSegment_of (c := { c with counted := c.counted + 1 })
    (x := { x with segment := some { c with counted := c.counted + 1 } }) rfl hrecord]
  rfl

/-- A dirty attempt with counted attempts left is abandoned, and its line kept (R108). -/
theorem judgeAttempt_retries {r : FinishReport} {d : DirtyMark} {c : SegmentContext} {g : Segment} (hdirty : r.dirty = some d)
    (hsegment : s.pwk.segment = some c) (hrecord : s.pwk.record c.record = .segment g) (hleft : c.counted + 1 < g.retryLimit)
    (hlast : a.attempt ≠ 65535) (hfree : s.FreeReport 1) : s.judgeAttempt a r =
      (s.withPwk { s.pwk with
        state := if s.pwk.pausePending then .paused else .lineWait
        pausePending := false
        attempt := none
        attemptNumber := s.pwk.attemptNumber + 1
        outgoing := none
        segment := some { c with counted := c.counted + 1 } }).withRps
      (s.rps.plus (.lineAbandoned a.line a.attempt a.headAzimuth (.dirty d.cause d.shot r.offered) (a.fired.getD 0))) := by
  have hcounted := counted_countAttempt hsegment
  have hlimit := retryLimit_countAttempt hsegment hrecord
  have hretry : ¬((s.withPwk s.pwk.countAttempt).pwk.retryLimit ≤ (s.withPwk s.pwk.countAttempt).pwk.counted ∨
      a.attempt = 65535) := by
    rw [State.withPwk_pwk, hcounted, hlimit]
    omega
  simp only [State.judgeAttempt, hdirty]
  refine (if_neg hretry).trans ?_
  rw [State.retryLine_free _ _ _ _ (by simpa using hfree), Pwk.toLineWait_eq, countAttempt_eq hsegment]
  rfl

/-- The attempt limit of an open attempt abandons it, and not before its expiry (R107; log entry 10). -/
theorem attemptLimit_abandons {e : Nat} (hlimit : s.pwk.attemptLimit = some e) (hle : e ≤ s.time)
    (hattempt : s.pwk.attempt = some a) (hopen : a.ending = false) :
    effect .attemptLimitExpiry s = s.abandon .mirror a := by
  refine (if_pos (due_of hlimit hle)).trans ?_
  simp only [hattempt, hopen, Bool.false_eq_true, if_false]

/-- With an open shot the record of an abandonment goes before RGU's flush or after it (R62, R110; log entry 36). -/
theorem abandon_openShot {x : Shot} {reason : AbandonReason} (hopen : a.ending = false) (hlast : a.attempt ≠ 65535)
    (hshots : s.rgu.openShots = [x]) :
    s.abandon reason a = ((s.closeNotice.drawn).recordAbandoned reason a (s.firedOf a)).rguEnd .abandoned a.line a.attempt ∨
      s.abandon reason a = ((s.closeNotice.drawn).rguEnd .abandoned a.line a.attempt).recordAbandoned reason a (s.firedOf a) := by
  have hdrawn : s.closeNotice.orderDrawn = s.closeNotice.drawn := by
    have hshots' : s.closeNotice.rgu.openShots = [x] := hshots
    simp [State.orderDrawn, hshots']
  simp only [State.abandon, hopen, hlast, Bool.false_eq_true, if_false, hdrawn]
  split
  · exact .inl rfl
  · exact .inr rfl

end

/-- Settles O28. -/
theorem attemptsAbandoned : Obligations.AttemptsAbandoned := by
  refine ⟨?_, ?_, ?_, ?_⟩
  · intro s r d a g c n hp hreport hdirty hattempt hending hline hnumber hstate hfired hsegment hrecord hleft hlast hfree
    refine exec_next hp ((finishReport_judges hreport hattempt hending hline hnumber hstate).trans
      ((judgeAttempt_retries (s := s.withPta { s.pta with report := none }) hdirty hsegment hrecord hleft hlast hfree).trans ?_))
    rw [hfired]
    rfl
  · intro s e hp hlimit
    refine ⟨fun hearly => exec_next hp (if_neg (not_due_of hlimit hearly)), ?_⟩
    intro a ctx q hle hattempt hopen hfired hlast hctx hshots hq hline hnumber hfree
    exact exec_next hp ((attemptLimit_abandons hlimit hle hattempt hopen).trans
      (abandon_mirror hopen hfired hlast hctx hshots hq hline hnumber hfree))
  · intro s e a ctx q x h p hp hlimit hle hattempt hopen hfired hlast hctx hshots hxline hxnumber hq hline hnumber hheld hroom
      hfree hoffered
    have hoffer : (s.judgeShot s.pta.predecessor h (some x.missed)).rps = s.rps.plus (.point p) := by
      rw [hoffered]
      rfl
    have heffect := attemptLimit_abandons hlimit hle hattempt hopen
    have hfew : s.rps.queue.length < 1984 := by omega
    rcases abandon_openShot (reason := .mirror) hopen hlast hshots with habandon | habandon
    · have hrecord := recordAbandoned_free (s := s.closeNotice.drawn) (reason := .mirror) (a := a) (fired := s.firedOf a)
        (hfree.mono (by omega)) rfl
      have hflush := rguEnd_offers (s := s) (a := a)
        (u := (s.closeNotice.drawn.withPwk (walkerAbandoned .mirror s.closeNotice.drawn.pwk)).withRps
          (s.rps.plus (.lineAbandoned a.line a.attempt a.headAzimuth .mirror (s.firedOf a))))
        hshots hxline hxnumber hq rfl hline hnumber hheld rfl rfl rfl hfew (by simpa [Rps.plus] using hroom)
        (hfree.mono (by omega)) (hfree.plus _) hoffer
      refine ⟨_, exec_next hp (heffect.trans (habandon.trans ((congrArg _ hrecord).trans hflush))), .inr ?_, rfl, rfl, rfl, rfl⟩
      rw [firedOf_open hfired hctx]
      rfl
    · have hflush := rguEnd_offers (s := s) (a := a) (u := s.closeNotice.drawn)
        hshots hxline hxnumber hq rfl hline hnumber hheld rfl rfl rfl hfew hfew
        (hfree.mono (by omega)) (hfree.mono (by omega)) hoffer
      have hrecord := recordAbandoned_free (reason := .mirror) (a := a) (fired := s.firedOf a)
        (s := ((s.closeNotice.drawn.withRgu { s.closeNotice.drawn.rgu with openShots := [], record := none }).withPta
          { s.pta with predecessor := none, held := none, context := none }).withRps (s.rps.plus (.point p)))
        (hfree.plus (.point p)) rfl
      refine ⟨_, exec_next hp (heffect.trans (habandon.trans
        ((congrArg (State.recordAbandoned _ _ _) hflush).trans hrecord))), .inl ?_, rfl, rfl, rfl, rfl⟩
      rw [firedOf_open hfired hctx]
      rfl
  · intro line attempt azimuth reason fired
    cases reason with
    | dirty cause shot offered => cases cause <;> exact lineAbandoned_layout line attempt azimuth (.dirty _ shot offered) fired
    | gate closed => exact lineAbandoned_layout line attempt azimuth (.gate closed) fired
    | mirror => exact lineAbandoned_layout line attempt azimuth .mirror fired
    | proximity => exact lineAbandoned_layout line attempt azimuth .proximity fired
    | stop => exact lineAbandoned_layout line attempt azimuth .stop fired
    | duplicate => exact lineAbandoned_layout line attempt azimuth .duplicate fired

end Sys2Proof.Proofs.Attempts

/-! The walker between lines (O27, O30): tasks that follow one another at once, slews, and the request for a photo. -/

namespace Sys2Proof.Proofs.Walking

open Sys2Proof.Machine Sys2Proof.Proofs.Effects Sys2Proof.Proofs.ShotPath Sys2Proof.Proofs.Abandon Sys2Proof.Proofs.Attempts
open Sys2Proof.Proofs.Layout

section
variable {s u v w : State}

/-! ## Tasks that follow at once -/

theorem walk_one {t : WalkTask} (h : s.walkTask t = (u, none)) : s.walk t = u := by
  obtain ⟨n, hn⟩ := State.walk_eq t s
  rw [hn, State.walkTasks, h]

theorem walk_two {t t' : WalkTask} (h : s.walkTask t = (u, some t')) (h' : u.walkTask t' = (v, none)) : s.walk t = v := by
  obtain ⟨n, hn⟩ := State.walk_eq t s
  rw [hn, State.walkTasks, h]
  dsimp only
  rw [State.walkTasks, h']

theorem walk_three {t t' t'' : WalkTask} (h : s.walkTask t = (u, some t')) (h' : u.walkTask t' = (v, some t''))
    (h'' : v.walkTask t'' = (w, none)) : s.walk t = w := by
  obtain ⟨n, hn⟩ := State.walk_eq t s
  rw [hn, State.walkTasks, h]
  dsimp only
  rw [State.walkTasks, h']
  dsimp only
  rw [State.walkTasks, h'']

/-- With nothing outgoing, a walker that is neither halted nor paused takes its deferred task at once (R105). -/
theorem defer_walks (t : WalkTask) (hout : s.pwk.outgoing = none) (hhalted : s.pwk.state ≠ .halted)
    (hpaused : s.pwk.state ≠ .paused) : s.defer t = (s.withPwk { s.pwk with deferred := none }).walk t := by
  have hfree : (s.withPwk { s.pwk with deferred := some t }).pwk.outgoing.isNone = true ∧
      (s.withPwk { s.pwk with deferred := some t }).pwk.state ≠ .halted ∧
      (s.withPwk { s.pwk with deferred := some t }).pwk.state ≠ .paused := ⟨by simp [hout], hhalted, hpaused⟩
  exact if_pos hfree

/-! ## Slews (R102) -/

/-- The walker slewing toward another target than the one it has reached; in-position is low (log entry 14). -/
def slewing (target now : Nat) (x : Pwk) : Pwk :=
  { x with
    state := .slewing
    slew := ⟨some target, some now, false, some (now + 1000000000)⟩
    inPosition := false
    headCommand := some target }

theorem slewTo_moves {target : Nat} (h : s.pwk.inPosition = false ∨ s.pwk.headCommand ≠ some target) :
    s.slewTo target = (s.withPwk (slewing target s.time s.pwk), none) := by
  have hposition : (s.pwk.inPosition && s.pwk.headCommand == some target) = false := by
    rcases h with h | h <;> simp [h]
  simp only [State.slewTo, State.issueHead, hposition, State.withPwk_pwk, Bool.false_eq_true, if_false]
  rfl

theorem nextLine_moves {c : SegmentContext} {g : Segment} (hsegment : s.pwk.segment = some c)
    (hrecord : s.pwk.record c.record = .segment g) (hmore : c.lineIndex + 1 < c.lines)
    (h : s.pwk.inPosition = false ∨ s.pwk.headCommand ≠ some (g.azimuth (c.lineIndex + 1))) :
    s.walkTask .nextLine = (s.withPwk { slewing (g.azimuth (c.lineIndex + 1)) s.time s.pwk with
      segment := some { c with lineIndex := c.lineIndex + 1 } }, none) :=
  State.nextLine_slews s c g hsegment hrecord hmore h

theorem takeSegment_moves {i : Nat} {g : Segment} (hrecord : s.pwk.record i = .segment g)
    (h : s.pwk.inPosition = false ∨ s.pwk.headCommand ≠ some (g.azimuth 0)) :
    s.walkTask (.take i) = (s.withPwk { slewing (g.azimuth 0) s.time s.pwk with
      recordIndex := i, segment := some ⟨i, 0, g.lines, 0, 0⟩ }, none) := by
  have hslew := slewTo_moves (target := g.azimuth 0)
    (s := (s.withPwk { s.pwk with recordIndex := i }).withPwk
      { s.pwk with recordIndex := i, segment := some ⟨i, 0, g.lines, 0, 0⟩ }) h
  show s.takeRecord i = _
  simp only [State.takeRecord, hrecord]
  exact hslew

/-! ## The request for a photo (R80, R81, R112) -/

/-- The bits of a mask put together camera by camera. -/
theorem foldl_setBits (p : Nat → Bool) (l : List Nat) (acc : CameraSet) (i : Nat) (hi : i < 4) :
    (l.foldl (fun acc n => if p n then acc ||| (1#4 <<< n) else acc) acc).getLsbD i =
      (acc.getLsbD i || l.any fun n => p n && n == i) := by
  induction l generalizing acc with
  | nil => simp
  | cons n rest ih =>
    rw [List.foldl_cons, ih, List.any_cons]
    cases hp : p n with
    | false => simp
    | true =>
      have hbit : (acc ||| (1#4 <<< n)).getLsbD i = (acc.getLsbD i || n == i) := by
        rw [BitVec.getLsbD_or, BitVec.getLsbD_shiftLeft]
        rcases Nat.lt_trichotomy n i with h | h | h
        · have hlow : i - n ≠ 0 := by omega
          simp [hi, hlow, Nat.ne_of_lt h]
        · simp [hi, h]
        · simp [h, Nat.ne_of_gt h]
      simp [hbit, Bool.or_assoc]

/-- The present cameras of a mask are its effective mask (R80). -/
theorem presentMask_of {x : Phc} {mask m : CameraSet} (h : x.Effective mask m) : x.presentMask mask = m := by
  refine BitVec.eq_of_getLsbD_eq fun i hi => ?_
  rw [h i hi, Phc.presentMask, foldl_setBits _ _ _ _ hi, Bool.eq_iff_iff]
  simp [camerasOf, List.any_filter, hi, and_comm]

theorem takePhoto_settles {mask m : CameraSet} (hidle : s.phc.sequence = .idle) (heffective : s.phc.Effective mask m)
    (hsome : m ≠ 0) (hsettle : 0 < longest m s.cmu.settings.settle) : s.takePhoto mask =
      ((s.withPwk { s.pwk with state := .photo }).withPhc (s.settling m), none) := by
  have hd : ¬longest m s.cmu.settings.settle = 0 := by omega
  simp only [State.takePhoto, State.photoRequest, State.withPwk_phc, hidle, if_true, presentMask_of heffective, hsome, if_false,
    State.enterSettle, State.withPwk_cmu, hd, afterRequest]
  simp [State.settling, ticksOfMs, mul_comm]

theorem takePhoto_empty {mask : CameraSet} (hidle : s.phc.sequence = .idle) (heffective : s.phc.Effective mask 0) :
    s.takePhoto mask =
      ((s.withPwk { s.pwk with state := .photo }).withPhc { s.phc with effectiveMask := 0 }, some .photoDone) := by
  simp only [State.takePhoto, State.photoRequest, State.withPwk_phc, hidle, if_true, presentMask_of heffective, afterRequest]
  rfl

end

/-! ## The end of a line (R108, R111) -/

section
variable {s : State} {a : AttemptRecord} {r : FinishReport} {c : SegmentContext} {g : Segment}

/-- The counted attempts of a line once its last attempt is judged (R108). -/
def lineCount (r : FinishReport) (c : SegmentContext) : Nat := if r.dirty.isSome then c.counted + 1 else c.counted

/-- The walker once a line is done: the counters, and nothing outgoing (R111). -/
def counted (c : SegmentContext) (x : Pwk) : Pwk :=
  { x with
    lineCounter := x.lineCounter + 1
    attemptNumber := 1
    attempt := none
    segment := some { c with done := c.done + 1, counted := 0 }
    outgoing := none }

/-- The report stream once a line is done: its LINE_END, with LINE_GAP behind that of a gap (R108, R110). -/
def lineReported (s : State) (a : AttemptRecord) (r : FinishReport) (c : SegmentContext) : Rps :=
  if r.dirty.isSome then
    (s.rps.plus (.lineEnd a.line a.attempt a.headAzimuth .gap r.thinned (lineCount r c) (a.fired.getD 0) r.offered)).plusEvent
      s.cmu.settings s.time (.lineGap a.line (lineCount r c))
  else s.rps.plus (.lineEnd a.line a.attempt a.headAzimuth .accepted r.thinned (lineCount r c) (a.fired.getD 0) r.offered)

theorem lineDone_eq {x : Pwk} (h : x.segment = some c) : { x.lineDone with outgoing := none } = counted c x := by
  simp [Pwk.lineDone, counted, h]

theorem counted_of {x : Pwk} (h : x.segment = some c) : x.counted = c.counted := by simp [Pwk.counted, h]

theorem endLine_accepted {fired offered : Nat} {thinned : Bool} (hsegment : s.pwk.segment = some c) (hfree : s.FreeReport 1) :
    s.endLine a .accepted thinned fired offered = ((s.withPwk (counted c s.pwk)).withRps
      (s.rps.plus (.lineEnd a.line a.attempt a.headAzimuth .accepted thinned c.counted fired offered))).defer .afterLine := by
  have hplaced := State.placeRecord_free (k := 0) (s := s.withPwk s.pwk.lineDone)
    (.lineEnd a.line a.attempt a.headAzimuth .accepted thinned c.counted fired offered) hfree
  have hdone := lineDone_eq hsegment
  simp only [State.endLine, counted_of hsegment, hplaced, reduceCtorEq, if_false, State.withPwk_pwk, hdone,
    State.withPwk_withPwk, State.withPwk_rps]

theorem endLine_gap {fired offered : Nat} {thinned : Bool} (hsegment : s.pwk.segment = some c) (hfree : s.FreeReport 2) :
    s.endLine a .gap thinned fired offered = ((s.withPwk (counted c s.pwk)).withRps
      ((s.rps.plus (.lineEnd a.line a.attempt a.headAzimuth .gap thinned c.counted fired offered)).plusEvent s.cmu.settings
        s.time (.lineGap a.line c.counted))).defer .afterLine := by
  have hplaced := State.placeRecord_free (k := 1) (s := s.withPwk s.pwk.lineDone)
    (.lineEnd a.line a.attempt a.headAzimuth .gap thinned c.counted fired offered) hfree
  have hraised := State.raise_free (k := 0) (.lineGap a.line c.counted) (s := (s.withPwk (counted c s.pwk)).withRps
    (s.rps.plus (.lineEnd a.line a.attempt a.headAzimuth .gap thinned c.counted fired offered)))
    (State.FreeReport.plus (s := s.withPwk (counted c s.pwk)) _ hfree)
  have hdone := lineDone_eq hsegment
  simp only [State.endLine, counted_of hsegment, hplaced, if_true, State.withPwk_pwk, hdone,
    State.withPwk_withPwk, State.withPwk_rps, hraised]
  rfl

/-- A line ends with its attempt accepted, or as a gap (R108). -/
theorem judgeAttempt_ends (hsegment : s.pwk.segment = some c) (hrecord : s.pwk.record c.record = .segment g)
    (hends : r.dirty.isSome = true → g.retryLimit ≤ c.counted + 1 ∨ a.attempt = 65535) (hfree : s.FreeReport 2) :
    s.judgeAttempt a r = ((s.withPwk (counted c s.pwk)).withRps (lineReported s a r c)).defer .afterLine := by
  cases hdirty : r.dirty with
  | none =>
    have hended := endLine_accepted (a := a) (fired := a.fired.getD 0) (offered := r.offered) (thinned := r.thinned) hsegment
      (hfree.mono (by omega))
    simp only [State.judgeAttempt, hdirty, hended, lineReported, lineCount, Option.isSome_none, Bool.false_eq_true, if_false]
  | some d =>
    have hlimit : (s.withPwk s.pwk.countAttempt).pwk.retryLimit ≤ (s.withPwk s.pwk.countAttempt).pwk.counted ∨
        a.attempt = 65535 := by
      rw [State.withPwk_pwk, counted_countAttempt hsegment, retryLimit_countAttempt hsegment hrecord]
      exact hends (by rw [hdirty]; rfl)
    have hended := endLine_gap (s := s.withPwk s.pwk.countAttempt) (a := a) (c := { c with counted := c.counted + 1 })
      (fired := a.fired.getD 0) (offered := r.offered) (thinned := r.thinned)
      (by rw [State.withPwk_pwk, countAttempt_eq hsegment]) hfree
    simp only [State.judgeAttempt, hdirty]
    refine (if_pos hlimit).trans (hended.trans ?_)
    rw [State.withPwk_pwk, countAttempt_eq hsegment, lineReported, lineCount, hdirty]
    rfl

/-! ### What follows the line (R111, R112) -/

variable {m : CameraSet}

theorem afterLine_photo (hsegment : s.pwk.segment = some c) (hrecord : s.pwk.record c.record = .segment g)
    (hinterval : 0 < g.interval) (hdue : c.done % g.interval = 0) :
    s.walkTask .afterLine = (s.withPwk { s.pwk with saved := some c }).takePhoto g.mask := by
  have hphoto : photoDue g c = true := decide_eq_true ⟨hinterval, hdue⟩
  show s.afterLine = _
  simp only [State.afterLine, Pwk.currentSegment_of hsegment hrecord, hsegment, hphoto, if_true]

theorem photoDone_interleaved (hstate : s.pwk.state = .photo) (hsaved : s.pwk.saved = some c) :
    s.walkTask .photoDone = (s.withPwk { s.pwk with segment := some c, saved := none }, some .nextLine) := by
  show s.photoDone = _
  simp only [State.photoDone, hstate, if_true, hsaved]

theorem photoDone_record (hstate : s.pwk.state = .photo) (hsaved : s.pwk.saved = none) :
    s.walkTask .photoDone = (s, some (.take (s.pwk.recordIndex + 1))) := by
  show s.photoDone = _
  simp only [State.photoDone, hstate, if_true, hsaved]

/-- The interleaved photo of cameras that settle (R81, R112). -/
theorem walk_photo (hsegment : s.pwk.segment = some c) (hrecord : s.pwk.record c.record = .segment g)
    (hinterval : 0 < g.interval) (hdue : c.done % g.interval = 0) (hidle : s.phc.sequence = .idle)
    (heffective : s.phc.Effective g.mask m) (hsome : m ≠ 0) (hsettle : 0 < longest m s.cmu.settings.settle) :
    s.walk .afterLine = (s.withPwk { s.pwk with saved := some c, state := .photo }).withPhc (s.settling m) :=
  walk_one ((afterLine_photo hsegment hrecord hinterval hdue).trans
    (takePhoto_settles (s := s.withPwk { s.pwk with saved := some c }) hidle heffective hsome hsettle))

/-- The interleaved photo of no camera: the walker slews to the next line (R111, R113). -/
theorem walk_noPhoto (hsegment : s.pwk.segment = some c) (hrecord : s.pwk.record c.record = .segment g)
    (hinterval : 0 < g.interval) (hdue : c.done % g.interval = 0) (hidle : s.phc.sequence = .idle)
    (heffective : s.phc.Effective g.mask 0) (hmore : c.lineIndex + 1 < c.lines)
    (h : s.pwk.inPosition = false ∨ s.pwk.headCommand ≠ some (g.azimuth (c.lineIndex + 1))) :
    s.walk .afterLine = (s.withPwk { slewing (g.azimuth (c.lineIndex + 1)) s.time s.pwk with
      saved := none, segment := some { c with lineIndex := c.lineIndex + 1 } }).withPhc
      { s.phc with effectiveMask := 0 } :=
  walk_three ((afterLine_photo hsegment hrecord hinterval hdue).trans
      (takePhoto_empty (s := s.withPwk { s.pwk with saved := some c }) hidle heffective))
    (photoDone_interleaved rfl rfl)
    (nextLine_moves
      (s := ((s.withPwk { s.pwk with saved := some c, state := .photo }).withPhc { s.phc with effectiveMask := 0 }).withPwk
        { s.pwk with segment := some c, saved := none, state := .photo }) rfl hrecord hmore h)

end

/-- Settles O27. -/
theorem lineEnds : Obligations.LineEnds := by
  refine ⟨?_, lineEnd_layout⟩
  intro s r a g c n hp hreport hattempt hending hline hnumber hstate hfired hsegment hrecord hends hfree
  refine ⟨lineCount r c, rfl, ?_⟩
  intro next ended slewing'
  have hnext : next = g.azimuth (c.lineIndex + 1) := by norm_num [next, Segment.azimuth]
  have hjudged := (finishReport_judges hreport hattempt hending hline hnumber hstate).trans
    (judgeAttempt_ends (s := s.withPta { s.pta with report := none }) hsegment hrecord hends hfree)
  have hcontext : ∀ x : Rps, (((s.withPta { s.pta with report := none }).withPwk (counted c s.pwk)).withRps x).pwk.segment =
      some { c with done := c.done + 1, counted := 0 } := fun _ => rfl
  have hrps : lineReported (s.withPta { s.pta with report := none }) a r c = ended.rps := by
    simp only [lineReported, hfired]
    rfl
  rw [hrps] at hjudged
  have hwalks : ∀ x : Rps, (((s.withPta { s.pta with report := none }).withPwk (counted c s.pwk)).withRps x).defer .afterLine =
      (((s.withPta { s.pta with report := none }).withPwk { counted c s.pwk with deferred := none }).withRps x).walk
        .afterLine := fun x => defer_walks .afterLine rfl
    (by simp [counted, hstate]) (by simp [counted, hstate])
  refine ⟨fun hnone hmore hmoves => exec_next hp (hjudged.trans ?_), fun m hinterval hdue hidle heffective =>
    ⟨fun hsome hsettle => exec_next hp (hjudged.trans ?_), fun hempty hmore hmoves => exec_next hp (hjudged.trans ?_)⟩⟩
  · have hnotDue : photoDue g { c with done := c.done + 1, counted := 0 } = false := by
      simp only [photoDue, decide_eq_false_iff_not]
      omega
    rw [hnext] at hmoves
    refine (State.defer_nextLine (((s.withPta { s.pta with report := none }).withPwk (counted c s.pwk)).withRps ended.rps)
      { c with done := c.done + 1, counted := 0 } g rfl hrecord rfl (by simp [counted, hstate]) (by simp [counted, hstate])
      hnotDue hmore hmoves).trans ?_
    rw [← hnext]
    rfl
  · exact (hwalks _).trans (walk_photo
      (s := ((s.withPta { s.pta with report := none }).withPwk { counted c s.pwk with deferred := none }).withRps ended.rps)
      rfl hrecord hinterval hdue hidle heffective hsome hsettle)
  · subst hempty
    rw [hnext] at hmoves
    refine (hwalks _).trans ((walk_noPhoto
      (s := ((s.withPta { s.pta with report := none }).withPwk { counted c s.pwk with deferred := none }).withRps ended.rps)
      (c := { c with done := c.done + 1, counted := 0 }) rfl hrecord hinterval hdue hidle heffective hmore hmoves).trans ?_)
    rw [← hnext]
    rfl

/-! ## The head (R102, R103) -/

section
variable {s : State}

theorem arrive_line {g : Segment} (hrecord : s.pwk.record s.pwk.recordIndex = .segment g) :
    s.walkTask .arrive = (s.withPwk { s.pwk with
      slew := { s.pwk.slew with arrived := true, faultTimer := none }
      state := if s.pwk.pausePending then .paused else .lineWait
      pausePending := false }, none) := by
  show s.arrive = _
  unfold State.arrive
  dsimp only
  split
  · rename_i azimuth mask hphoto
    cases hrecord.symm.trans hphoto
  · rw [Pwk.toLineWait_eq]
    rfl

theorem arrive_photo {azimuth : Nat} {mask : CameraSet} (hrecord : s.pwk.record s.pwk.recordIndex = .photo azimuth mask) :
    s.walkTask .arrive = (s.withPwk { s.pwk with
      slew := { s.pwk.slew with arrived := true, faultTimer := none } }).takePhoto mask := by
  show s.arrive = _
  unfold State.arrive
  dsimp only
  split
  · rename_i azimuth' mask' hphoto
    cases hrecord.symm.trans hphoto
    rfl
  · rename_i hother
    exact absurd hrecord (hother azimuth mask)

theorem inPosition_arrives (hstate : s.pwk.state = .slewing) :
    effect .inPositionRise s = (s.withPwk { s.pwk with inPosition := true }).walk .arrive := if_pos hstate

end

/-- Settles O30. -/
theorem headArrives : Obligations.HeadArrives := by
  intro s hp
  refine ⟨fun hother => exec_next hp (if_neg hother), fun hstate ⟨g, hrecord⟩ => ?_, ?_, ?_⟩
  · exact exec_next hp ((inPosition_arrives hstate).trans
      (walk_one (arrive_line (s := s.withPwk { s.pwk with inPosition := true }) hrecord)))
  · intro azimuth mask m hstate hrecord hidle heffective arrived
    have harrives := arrive_photo (s := s.withPwk { s.pwk with inPosition := true }) hrecord
    refine ⟨fun hsome hsettle => ?_, fun g hempty hsaved hnext hmoves => ?_⟩
    · exact exec_next hp ((inPosition_arrives hstate).trans (walk_one (harrives.trans
        (takePhoto_settles (s := s.withPwk arrived) hidle heffective hsome hsettle))))
    · subst hempty
      exact exec_next hp ((inPosition_arrives hstate).trans (walk_three (harrives.trans
          (takePhoto_empty (s := s.withPwk arrived) hidle heffective))
        (photoDone_record rfl hsaved)
        (takeSegment_moves (s := (s.withPwk { arrived with state := .photo }).withPhc { s.phc with effectiveMask := 0 })
          hnext (.inr hmoves))))
  · intro e target hstate htimer htarget hle hfree
    have hraised := State.raise_free (k := 0) (.headFault (s.pwk.slew.target.getD 0) s.pwk.recordIndex)
      (s := s.withPwk { s.pwk with state := .faulted, slew := { s.pwk.slew with faultTimer := none } }) hfree
    refine exec_next hp ((if_pos ⟨hstate, due_of htimer hle⟩).trans (hraised.trans ?_))
    rw [plusEvent_unmaskable rfl, htarget]
    rfl

end Sys2Proof.Proofs.Walking

/-! The photograph sequence (O31, O32): settle, exposure, release, and the catalogue and PHOTO records a sequence makes. -/

namespace Sys2Proof.Proofs.Photos

open Sys2Proof.Machine Sys2Proof.Proofs.Effects Sys2Proof.Proofs.ShotPath Sys2Proof.Proofs.Walking Sys2Proof.Proofs.Layout

/-! ## Settle and exposure (R82 to R86) -/

section
variable {s : State}

/-- SLC with the quiet request of a settle's end: a frame in sending is no notice of it (R82, R83). -/
def quietRequested (s : State) : Slc := s.slc.forgetQuiet.request s.time .quiet

theorem ticksOfUs_eq (n : Nat) : ticksOfUs n = 100 * n := Nat.mul_comm n 100

theorem expose_eq (s : State) : s.expose = s.withPhc (s.exposing s.phc.ungranted) := by
  rw [State.expose, ticksOfUs_eq]
  rfl

theorem expose_congr {x : Phc} {l : Slc} (hmask : x.effectiveMask = s.phc.effectiveMask) :
    ((s.withPhc x).withSlc l).expose = (s.withPhc { x with
      sequence := .expose
      exposure := (s.exposing x.ungranted).exposure
      expected := []
      granted := []
      timer := (s.exposing x.ungranted).timer }).withSlc l := by
  rw [expose_eq]
  simp only [State.exposing, State.withSlc_phc, State.withPhc_phc, hmask]
  rfl

/-- PHC in GRANT_WAIT, before a grant is checked. -/
def waiting (s : State) : Phc :=
  { s.phc with
    sequence := .grantWait
    requestW := requestLength (longest s.phc.effectiveMask s.cmu.settings.exposure)
    requestSent := false
    expected := s.pru.liveStations
    granted := []
    timer := some (s.time + ticksOfMs 250) }

theorem endSettle_eq (s : State) : s.endSettle = ((s.withPhc (waiting s)).withSlc (quietRequested s)).checkGrant := rfl

theorem waiting_ungranted (s : State) : (waiting s).ungranted = s.pru.liveStations := by
  simp [waiting, Phc.ungranted]

theorem endSettle_waits (h : s.pru.liveStations ≠ []) :
    s.endSettle = (s.withPhc (waiting s)).withSlc (quietRequested s) := by
  have hgrant : (waiting s).fullGrant = false := by
    rw [Phc.fullGrant, waiting_ungranted]
    simpa using h
  rw [endSettle_eq, State.checkGrant, State.withSlc_phc, State.withPhc_phc, hgrant]
  simp

theorem endSettle_exposes (h : s.pru.liveStations = []) :
    s.endSettle = ((s.withPhc (waiting s)).withSlc (quietRequested s)).expose := by
  have hgrant : (waiting s).fullGrant = true := by
    rw [Phc.fullGrant, waiting_ungranted, h]
    rfl
  exact if_pos ⟨rfl, hgrant⟩

theorem settleEnd_ends {e : Nat} (hstate : s.phc.sequence = .settle) (htimer : s.phc.timer = some e) (hle : e ≤ s.time) :
    effect .settleEnd s = s.endSettle := if_pos ⟨hstate, due_of htimer hle⟩

theorem lowerOne_eq {e : ExposureRecord} {n : Nat} (h : n < 4) :
    e.lowerOne n = { e with cameras := e.cameras.set n { e.cameras[n] with trigger := false } } := by
  have hget : e.cameras[n]? = some e.cameras[n] := Vector.getElem?_eq_getElem h
  simp only [ExposureRecord.lowerOne, hget]
  congr 1
  exact Vector.ext fun i hi => by simp [Vector.getElem_setIfInBounds, Vector.getElem_set, CameraExposure.fall]

theorem endOf_eq {e : ExposureRecord} {n t0 : Nat} (h : n < 4) (hstart : e.startTime = some t0) :
    e.endOf n = if e.cameras[n].trigger then some (t0 + 100 * e.cameras[n].length) else none := by
  have hget : e.cameras[n]? = some e.cameras[n] := Vector.getElem?_eq_getElem h
  simp only [ExposureRecord.endOf, hget, hstart, ticksOfUs_eq]

end

/-- Settles O31. -/
theorem photoExposes : Obligations.PhotoExposes := by
  refine ⟨?_, ?_⟩
  · intro s e hp htimer hle longestExposure w line
    refine ⟨fun hstate => ⟨fun hlive => ?_, fun hnone => ?_⟩, fun hstate => ?_⟩
    · exact exec_next hp ((settleEnd_ends hstate htimer hle).trans (endSettle_waits hlive))
    · refine exec_next hp ((settleEnd_ends hstate htimer hle).trans ((endSettle_exposes hnone).trans ?_))
      rw [expose_congr (x := waiting s) rfl, waiting_ungranted, hnone]
      rfl
    · have hexposed : effect .grantTimeout s = s.expose := if_pos ⟨hstate, due_of htimer hle⟩
      exact exec_next hp (hexposed.trans (expose_eq s))
  · intro s n t0 hn hp hstate hstart
    have hend := endOf_eq (e := s.phc.exposure) hn hstart
    refine ⟨fun hhigh hle => exec_next hp ?_, fun hlow => exec_next hp (if_neg ?_)⟩
    · rw [if_pos hhigh] at hend
      refine (if_pos ⟨hstate, due_of hend hle⟩).trans ?_
      rw [lowerOne_eq hn]
    · rintro ⟨-, hdue⟩
      rcases hlow with hlow | hearly
      · rw [hend, hlow] at hdue
        cases hdue
      · cases hhigh : s.phc.exposure.cameras[n].trigger with
        | false =>
          rw [hend, hhigh] at hdue
          cases hdue
        | true =>
          rw [hhigh, if_pos rfl] at hend
          exact not_due_of hend hearly hdue

/-! ## The catalogue and the PHOTO records (R88, R89) -/

/-- The newest 64 entries. -/
def newest (l : List Photo) : List Photo := l.drop (l.length - 64)

theorem newest_append (a b : List Photo) : newest (newest a ++ b) = newest (a ++ b) := by
  have hsplit : newest a ++ b = (a ++ b).drop (a.length - 64) := by
    rw [List.drop_append_of_le_length (by omega)]
    rfl
  rw [hsplit, newest, List.drop_drop]
  have hlength : a.length - 64 + (((a ++ b).drop (a.length - 64)).length - 64) = (a ++ b).length - 64 := by
    simp only [List.length_drop, List.length_append]
    omega
  rw [hlength]
  rfl

theorem newest_short {l : List Photo} (h : l.length ≤ 64) : newest l = l := by
  rw [newest, Nat.sub_eq_zero_of_le h, List.drop_zero]

theorem newest_length (l : List Photo) : (newest l).length ≤ 64 := by
  simp only [newest, List.length_drop]
  omega

theorem addEntry_newest {p : Photo} {l : List Photo} (h : l.length ≤ 64) : addEntry p l = newest (l ++ [p]) := by
  unfold addEntry newest
  simp only [List.length_append, List.length_singleton]
  split
  · rw [List.drop_append_of_le_length (by omega)]
    congr 2
    omega
  · rw [Nat.sub_eq_zero_of_le (by omega), List.drop_zero]

/-- The entries of cameras in order, numbered from k (R89). -/
def entriesFrom (aborted : Bool) (length : Nat → Nat) (k : Nat) (cameras : List Nat) (x : Phc) : List Photo :=
  (cameras.zipIdx k).map fun ci => x.entryFor ci.1 (length ci.1) aborted ci.2

theorem entriesFrom_zip (aborted : Bool) (length : Nat → Nat) (k : Nat) (cameras : List Nat) (x : Phc) :
    entriesFrom aborted length k cameras x =
      cameras.zipIdx.map fun ci => x.entryFor ci.1 (length ci.1) aborted (k + ci.2) := by
  rw [entriesFrom, List.zipIdx_eq_map_add, List.map_map]
  rfl

/-- While photo numbers are left, each camera gets its entry, and the newest 64 are held (R89). -/
theorem makeEntries_eq {aborted : Bool} {length : Nat → Nat} {cameras : List Nat} {k : Nat} {x : Phc}
    (hnumber : x.nextNumber = some k) (hleft : k + cameras.length ≤ 4294967295) (hfew : x.catalogue.length ≤ 64) :
    Phc.makeEntries aborted length cameras x =
      ({ x with
        catalogue := newest (x.catalogue ++ entriesFrom aborted length k cameras x)
        nextNumber := some (k + cameras.length) }, entriesFrom aborted length k cameras x) := by
  induction cameras generalizing k x with
  | nil =>
    simp only [Phc.makeEntries, entriesFrom, List.zipIdx_nil, List.map_nil, List.append_nil, newest_short hfew, List.length_nil,
      Nat.add_zero, ← hnumber]
  | cons n rest ih =>
    have hfollowing : followingNumber k = some (k + 1) := if_pos (by simp at hleft; omega)
    have hadded := addEntry_newest (p := x.entryFor n (length n) aborted k) hfew
    have hrest := ih (k := k + 1) (x := { x with
        catalogue := newest (x.catalogue ++ [x.entryFor n (length n) aborted k]), nextNumber := some (k + 1) }) rfl
      (by simp at hleft; omega) (newest_length _)
    simp only [Phc.makeEntries, hnumber, hfollowing, hadded, hrest, newest_append]
    simp only [entriesFrom, List.zipIdx_cons, List.map_cons, List.append_assoc, List.singleton_append, List.length_cons,
      Nat.add_comm rest.length 1, ← Nat.add_assoc]
    rfl

/-- The records behind one another. -/
def plusPhotos (ps : List Photo) (q : Rps) : Rps := ps.foldl (fun q p => q.plus (.photo p)) q

theorem plusPhotos_queue (ps : List Photo) (q : Rps) : (plusPhotos ps q).queue = q.queue ++ ps.map .photo := by
  induction ps generalizing q with
  | nil => simp [plusPhotos]
  | cons p rest ih =>
    rw [plusPhotos, List.foldl_cons]
    refine (ih _).trans ?_
    simp [Rps.plus]

/-- PHOTO records with room enter behind one another (R88). -/
theorem offerPhotos_free {s : State} {ps : List Photo} {k : Nat} (hfree : s.FreeReport (k + ps.length)) :
    s.offerPhotos ps = (s.withPhc { s.phc with outgoing := [] }).withRps (plusPhotos ps s.rps) := by
  induction ps generalizing s with
  | nil => rfl
  | cons p rest ih =>
    have hroom : s.rps.room = true := State.FreeReport.room (k := k + rest.length) hfree
    have hentered := State.enter_free (k := k + rest.length) (.photo p) hfree
    rw [State.offerPhotos, if_pos hroom, hentered, ih (hfree.plus _)]
    rfl

theorem FreeReport.plusPhotos {s : State} {ps : List Photo} {k : Nat} (hfree : s.FreeReport (k + ps.length)) :
    (s.withRps (plusPhotos ps s.rps)).FreeReport k := by
  induction ps generalizing s with
  | nil => exact hfree
  | cons p rest ih => exact ih (s := s.withRps (s.rps.plus (.photo p))) (State.FreeReport.plus _ hfree)

theorem camerasOf_length (m : CameraSet) : (camerasOf m).length ≤ 4 := List.length_filter_le _ _

theorem entriesFrom_length (aborted : Bool) (length : Nat → Nat) (k : Nat) (cameras : List Nat) (x : Phc) :
    (entriesFrom aborted length k cameras x).length = cameras.length := by simp [entriesFrom]

theorem queuePhotos_free {s : State} {ps : List Photo} {k : Nat} (hout : s.phc.outgoing = [])
    (hfree : s.FreeReport (k + ps.length)) :
    s.queuePhotos ps = (s.withPhc { s.phc with outgoing := [] }).withRps (plusPhotos ps s.rps) :=
  (if_pos (by simp [hout])).trans (offerPhotos_free hfree)

/-! ## The release (R88, R113) -/

section
variable {s : State}

/-- The entries of a release. -/
def releasedEntries (s : State) (k : Nat) : List Photo :=
  entriesFrom false s.phc.recordedLength k (camerasOf s.phc.effectiveMask) s.phc

/-- PHC once a release has made its entries and drained them (R88, R89). -/
def releasedPhc (s : State) (k : Nat) : Phc :=
  { s.phc with
    sequence := .idle
    requestW := 0
    ownQuiet := false
    timer := none
    exposure := s.phc.exposure.lower
    catalogue := newest (s.phc.catalogue ++ releasedEntries s k)
    nextNumber := some (k + (camerasOf s.phc.effectiveMask).length)
    outgoing := []
    owed := none }

/-- After an interleaved photo the walker slews to the next line of the segment it had saved (R111, R113). -/
theorem walk_photoDone_interleaved {c : SegmentContext} {g : Segment} (hstate : s.pwk.state = .photo)
    (hsaved : s.pwk.saved = some c) (hrecord : s.pwk.record c.record = .segment g) (hmore : c.lineIndex + 1 < c.lines)
    (h : s.pwk.inPosition = false ∨ s.pwk.headCommand ≠ some (g.azimuth (c.lineIndex + 1))) :
    s.walk .photoDone = s.withPwk { slewing (g.azimuth (c.lineIndex + 1)) s.time s.pwk with
      saved := none, segment := some { c with lineIndex := c.lineIndex + 1 } } :=
  walk_two (photoDone_interleaved hstate hsaved)
    (nextLine_moves (s := s.withPwk { s.pwk with segment := some c, saved := none }) rfl hrecord hmore h)

/-- After the photo of a PHOTO record the walker slews to the first line of the SEGMENT behind it (R99, R113). -/
theorem walk_photoDone_record {g : Segment} (hstate : s.pwk.state = .photo) (hsaved : s.pwk.saved = none)
    (hrecord : s.pwk.record (s.pwk.recordIndex + 1) = .segment g)
    (h : s.pwk.inPosition = false ∨ s.pwk.headCommand ≠ some (g.azimuth 0)) :
    s.walk .photoDone = s.withPwk { slewing (g.azimuth 0) s.time s.pwk with
      recordIndex := s.pwk.recordIndex + 1, segment := some ⟨s.pwk.recordIndex + 1, 0, g.lines, 0, 0⟩ } :=
  walk_two (photoDone_record hstate hsaved) (takeSegment_moves hrecord h)

/-- The part as the walker is told of a release. -/
def released (s : State) (k : Nat) : State :=
  ((s.withSlc (s.slc.request s.time .quiet)).withPhc (releasedPhc s k)).withRps (plusPhotos (releasedEntries s k) s.rps)

theorem lower_entries (s : State) (k : Nat) (length : Nat → Nat) :
    entriesFrom false length k (camerasOf s.phc.effectiveMask)
      { s.phc with requestW := 0, ownQuiet := false, timer := none, exposure := s.phc.exposure.lower } =
    entriesFrom false length k (camerasOf s.phc.effectiveMask) s.phc := by
  have hlit : ∀ n : Nat, (s.phc.exposure.lower.cameras[n]?).map (·.peerLit) = (s.phc.exposure.cameras[n]?).map (·.peerLit) :=
    fun n => by simp [ExposureRecord.lower, Function.comp_def]
  refine List.map_congr_left fun ci _ => ?_
  simp only [Phc.entryFor, hlit]
  rfl

theorem release_released {k : Nat} (hexpose : s.phc.sequence = .expose) (hnumber : s.phc.nextNumber = some k)
    (hleft : k + 4 ≤ 4294967295) (hfew : s.phc.catalogue.length ≤ 64) (hout : s.phc.outgoing = []) (hfree : s.FreeReport 4) :
    s.release.checkDrained = (released s k).walk .photoDone := by
  have hcameras := camerasOf_length s.phc.effectiveMask
  have hmade := makeEntries_eq (aborted := false) (length := s.phc.recordedLength)
    (cameras := camerasOf s.phc.effectiveMask) (k := k)
    (x := { s.phc with requestW := 0, ownQuiet := false, timer := none, exposure := s.phc.exposure.lower })
    hnumber (by omega) hfew
  rw [lower_entries s k] at hmade
  have hentries : (releasedEntries s k).length ≤ 4 := by
    rw [releasedEntries, entriesFrom_length]
    exact hcameras
  generalize howed : some (PhotoRange.mk ((releasedEntries s k).head?.map (·.number))
    ((releasedEntries s k).getLast?.map (·.number))) = owed
  have hrelease : s.release = (((s.withSlc (s.slc.request s.time .quiet)).withPhc
      { releasedPhc s k with sequence := s.phc.sequence, owed := owed }).withRps (plusPhotos (releasedEntries s k) s.rps)) := by
    have hqueued := queuePhotos_free (ps := releasedEntries s k) (k := 4 - (releasedEntries s k).length)
      (s := (s.withSlc (s.slc.request s.time .quiet)).withPhc
        { releasedPhc s k with sequence := s.phc.sequence, outgoing := s.phc.outgoing, owed := owed })
      hout (by rw [Nat.sub_add_cancel hentries]; exact hfree)
    refine Eq.trans ?_ hqueued
    rw [State.release]
    dsimp only [State.requestFrame, State.withSlc_phc, State.withPhc_phc]
    refine (congrArg (fun x : Phc × List Photo => State.queuePhotos x.2 (State.withPhc _ { x.1 with
      owed := some (PhotoRange.mk (x.2.head?.map (·.number)) (x.2.getLast?.map (·.number))) })) hmade).trans ?_
    rw [← howed]
    rfl
  have hdrained : (s.release.phc.draining = true ∧ s.release.phc.outgoing.isEmpty = true) := by
    rw [hrelease, State.withRps_phc, State.withPhc_phc, hexpose]
    exact ⟨rfl, rfl⟩
  rw [State.checkDrained, if_pos hdrained, hrelease, ← howed]
  rfl

end

/-- Settles O32. -/
theorem photoReleased : Obligations.PhotoReleased := by
  refine ⟨?_, photo_layout⟩
  intro s e k target x g hp hexpose hquiet htimer hle hout hnumber hleft hfew hfree hstate hnext hmoves cameras made
  have hmade : made = releasedEntries s k := by
    rw [releasedEntries, entriesFrom_zip]
    rfl
  have hrelease : effect .photoRelease s = (released s k).walk .photoDone :=
    (if_pos ⟨hexpose, hquiet, due_of htimer hle⟩).trans
      (release_released hexpose hnumber hleft hfew hout hfree)
  have hqueue : (released s k).rps.queue = s.rps.queue ++ made.map .photo := by
    rw [hmade]
    exact plusPhotos_queue _ _
  have hlow : ∀ c ∈ s.phc.exposure.lower.cameras, c.trigger = false := by
    intro c hc
    obtain ⟨c', -, rfl⟩ := Vector.mem_map.1 hc
    rfl
  rcases hnext with ⟨c, hsaved, hrecord, hmore, rfl, rfl⟩ | ⟨hsaved, hrecord, rfl, rfl⟩
  · have hwalk := walk_photoDone_interleaved (s := released s k) hstate hsaved hrecord hmore hmoves
    refine ⟨_, exec_next hp (hrelease.trans hwalk), ?_, rfl, hqueue, rfl, rfl, rfl, rfl, rfl, hlow, rfl, rfl, rfl, rfl, rfl, rfl,
      rfl, rfl, rfl, rfl, rfl, rfl, rfl⟩
    rw [hmade]
    rfl
  · have hwalk := walk_photoDone_record (s := released s k) hstate hsaved hrecord hmoves
    refine ⟨_, exec_next hp (hrelease.trans hwalk), ?_, rfl, hqueue, rfl, rfl, rfl, rfl, rfl, hlow, rfl, rfl, hsaved, rfl, rfl, rfl,
      rfl, rfl, rfl, rfl, rfl, rfl, rfl⟩
    rw [hmade]
    rfl

end Sys2Proof.Proofs.Photos

/-! The resets (O3, O4): the reset values of every block, and the load of the rows into their working tables. -/

namespace Sys2Proof.Proofs.Resets

open Sys2Proof.Machine Sys2Proof.Proofs.Effects

section
variable {s t : State} {levels : InputLevels} {cause : ResetCause} {row : Option Nat}

/-- A command whose frame the lane takes and whose operands fit is carried out with its frame ended (R190, R191). -/
theorem command_taken {i : Instr} (h : s.Takes i) (hfit : operandsFit i = true) {f : State → State} :
    State.commandFrame i f s = f s.frameEnded := by
  obtain ⟨-, htakes⟩ := h
  simp [State.commandFrame, State.laneFrame, htakes, hfit]

/-! ## The reset values (R206) -/

/-- What the loads of the rows leave alone stands at its reset values. -/
theorem resetPart_atReset (cause : ResetCause) (row : Option Nat) (levels : InputLevels) (s : State) :
    (s.resetPart cause row levels).AtReset levels := by
  obtain ⟨k, hrest, hscale⟩ := State.resetPart_rest cause row levels s
  have hrps := State.resetPart_rps cause row levels s
  generalize s.resetPart cause row levels = t at hrest hscale hrps
  have hmirror : ({ t.anu.mirror with correction := [] } : EncoderState) = { (Anu.reset levels).mirror with correction := [] } :=
    congrArg (fun r : State => r.anu.mirror) hrest
  have hhead : ({ t.anu.head with correction := [] } : EncoderState) = { (Anu.reset levels).head with correction := [] } :=
    congrArg (fun r : State => r.anu.head) hrest
  have hphc := congrArg (fun r : State => { r.phc with cameras := t.phc.cameras }) hrest
  have hmirrorReset : ({ t.anu.mirror with correction := [] } : EncoderState).AtReset levels.mirrorA levels.mirrorB
      levels.mirrorIndex := by
    rw [hmirror]
    exact ⟨rfl, rfl, rfl, rfl, rfl, rfl, rfl, rfl⟩
  have hheadReset : ({ t.anu.head with correction := [] } : EncoderState).AtReset levels.headA levels.headB
      levels.headIndex := by
    rw [hhead]
    exact ⟨rfl, rfl, rfl, rfl, rfl, rfl, rfl, rfl⟩
  refine ⟨congrArg State.powered hrest, ⟨hmirrorReset, hheadReset, ?_⟩, ⟨hphc, congrArg State.pwk hrest⟩,
    congrArg State.slc hrest, congrArg State.pru hrest, ?_⟩
  · exact ⟨congrArg (fun r : State => r.anu.monitor) hrest, congrArg (fun r : State => r.anu.previousIndex) hrest,
      congrArg (fun r : State => r.anu.inRangeRun) hrest, congrArg (fun r : State => r.anu.absence) hrest,
      congrArg State.time hrest, congrArg State.emt hrest, congrArg (fun r : State => r.rgu.openShots) hrest,
      congrArg (fun r : State => r.rgu.record) hrest, congrArg (fun r : State => r.rgu.transfer) hrest,
      (congrArg (fun r : State => r.rgu.effectiveScale) hrest).trans hscale.symm, congrArg State.pta hrest⟩
  · rw [hrps]
    exact ⟨rfl, rfl, rfl, congrArg (fun r : State => r.cmu.device) hrest, congrArg (fun r : State => r.cmu.settings) hrest,
      congrArg (fun r : State => r.cmu.receiver) hrest, congrArg (fun r : State => r.cmu.laneGap) hrest,
      congrArg (fun r : State => r.cmu.reply) hrest, congrArg (fun r : State => r.cmu.laneDiscards) hrest,
      congrArg (fun r : State => r.cst.write) hrest⟩

/-- What a reset records of itself, and what it keeps (R204). -/
theorem resetPart_records (cause : ResetCause) (row : Option Nat) (levels : InputLevels) (s : State) :
    (s.resetPart cause row levels).cst.rows = s.cst.rows ∧ (s.resetPart cause row levels).cst.cause = cause ∧
      (s.resetPart cause row levels).cst.interruptedRow = row ∧ (s.resetPart cause row levels).pending = s.pending := by
  obtain ⟨k, hrest, -⟩ := State.resetPart_rest cause row levels s
  generalize s.resetPart cause row levels = t at hrest
  exact ⟨(congrArg (fun r : State => r.cst.rows) hrest :), (congrArg (fun r : State => r.cst.cause) hrest :),
    (congrArg (fun r : State => r.cst.interruptedRow) hrest :), (congrArg State.pending hrest :)⟩

/-- The report stream stays in its reset states while records enter it, and READY is no reset value. -/
theorem AtReset.ready {q : Rps} (h : t.AtReset levels) (hthin : q.thinning = false) (hevents : q.events = [])
    (hport : q.port = 0) : ((t.withCmu { t.cmu with ready := true, reply := none }).withRps q).AtReset levels := by
  obtain ⟨hpowered, hshot, hwalk, hslc, hpru, -, -, -, hdevice, hsettings, hreceiver, hgap, -, hdiscards, hwrite⟩ := h
  exact ⟨hpowered, hshot, hwalk, hslc, hpru, hthin, hevents, hport, hdevice, hsettings, hreceiver, hgap, rfl, hdiscards, hwrite⟩

theorem raiseReady_atReset (h : t.AtReset levels) : t.raiseReady.AtReset levels := by
  have hready := AtReset.ready (q := t.rps) h
  obtain ⟨-, -, -, -, -, hthin, hevents, hport, -, -, -, -, hreply, -⟩ := h
  replace hready := hready hthin hevents hport
  rw [← hreply] at hready
  exact hready

/-- A reset leaves room for the reply of RESET. -/
theorem resetPart_free (cause : ResetCause) (row : Option Nat) (levels : InputLevels) (s : State) :
    (s.resetPart cause row levels).FreeReport 1 := by
  have hrps := State.resetPart_rps cause row levels s
  have hsettings : (s.resetPart cause row levels).cmu.settings = .default := by
    obtain ⟨-, -, -, -, -, -, -, -, -, hsettings, -⟩ := resetPart_atReset cause row levels s
    exact hsettings
  have hlength : (s.resetRecords cause row).length ≤ 2 := by
    unfold State.resetRecords
    cases s.failedRows.getLast? <;> simp
  rw [State.FreeReport, hrps, hsettings]
  refine ⟨rfl, by show _ + 1 ≤ 2048; simp only; omega, .inr ?_⟩
  show (s.resetRecords cause row).length + 1 < Settings.default.thinThreshold
  have hthreshold : 3 < Settings.default.thinThreshold := by decide
  omega

/-- RESET: the reset, then its reply (R205). -/
theorem reset_replies (h : s.Takes (.reset levels)) : effect (.reset levels) s =
    ((s.resetPart .command s.writtenRow levels).withCmu
      { (s.resetPart .command s.writtenRow levels).cmu with ready := true, reply := none }).withRps
      ((s.resetPart .command s.writtenRow levels).rps.plus (.reply ⟨15, .ok, 0, .nothing⟩)) := by
  have hacts : effect (.reset levels) s = (s.resetPart .command s.writtenRow levels).sendReply (plainReply 15 .ok) :=
    command_taken h rfl
  rw [hacts, State.sendReply_free (k := 0) _ (resetPart_free _ _ _ _)]
  rfl

end

/-- Settles O3. -/
theorem resetValues : Obligations.ResetValues := by
  intro levels s
  refine ⟨?_, fun hp => ?_, fun htakes => ?_⟩
  · have hnext : exec (.powerOn levels) s = .next (s.resetPart .power none levels).raiseReady := rfl
    have hreset := resetPart_atReset .power none levels s
    obtain ⟨hrows, hcause, hrow, hpending⟩ := resetPart_records .power none levels s
    generalize s.resetPart .power none levels = t at hnext hreset hrows hcause hrow hpending
    exact ⟨_, hnext, raiseReady_atReset hreset, rfl, hrows, hcause, hrow, hpending⟩
  · have hnext : exec (.resetLine levels) s = .next (s.resetPart .line s.writtenRow levels).raiseReady := exec_next hp rfl
    have hreset := resetPart_atReset .line s.writtenRow levels s
    obtain ⟨hrows, hcause, hrow, hpending⟩ := resetPart_records .line s.writtenRow levels s
    generalize s.resetPart .line s.writtenRow levels = t at hnext hreset hrows hcause hrow hpending
    exact ⟨_, hnext, raiseReady_atReset hreset, rfl, hrows, hcause, hrow, hpending⟩
  · have hnext := exec_next htakes.1 (reset_replies htakes)
    have hreset := resetPart_atReset .command s.writtenRow levels s
    have hrps := State.resetPart_rps .command s.writtenRow levels s
    obtain ⟨hrows, hcause, hrow, hpending⟩ := resetPart_records .command s.writtenRow levels s
    generalize s.resetPart .command s.writtenRow levels = t at hnext hreset hrps hrows hcause hrow hpending
    refine ⟨_, hnext, AtReset.ready hreset ?_ ?_ ?_, rfl, hrows, hcause, hrow, hpending⟩
    all_goals
      rw [hrps]
      simp [Rps.plus]

/-! ## The load of the rows (R200) -/

section
variable {s t : State}

theorem setTable_range (code : Nat) (v : List Int) (s : State) :
    (s.setTable code v).rgu.range = if code = 0 then rangeTableOf v else s.rgu.range := by
  unfold State.setTable
  split <;> simp_all

theorem setTable_walk (code : Nat) (v : List Int) (s : State) :
    (s.setTable code v).rgu.walk = if code = 1 then walkTableOf v else s.rgu.walk := by
  unfold State.setTable
  split <;> simp_all

theorem setTable_mirror (code : Nat) (v : List Int) (s : State) : (s.setTable code v).anu.mirror.correction =
    if code = 2 then correctionOf v else s.anu.mirror.correction := by
  unfold State.setTable
  split <;> simp_all

theorem setTable_head (code : Nat) (v : List Int) (s : State) : (s.setTable code v).anu.head.correction =
    if code = 3 then correctionOf v else s.anu.head.correction := by
  unfold State.setTable
  split <;> simp_all

theorem setTable_camera (code n : Nat) (hn : n < 4) (v : List Int) (s : State) :
    (s.setTable code v).phc.camera n = if code = n + 4 then cameraOf v else s.phc.camera n := by
  unfold State.setTable Phc.camera
  split
  · rw [if_neg (by omega)]
    rfl
  · rw [if_neg (by omega)]
    rfl
  · rw [if_neg (by omega)]
    rfl
  · rw [if_neg (by omega)]
    rfl
  · by_cases hcode : code = n + 4
    · simp [hcode, hn]
    · have hother : ¬code - 4 = n := by
        rename_i h0 h1 h2 h3
        have : ¬(code = 0 ∨ code = 1 ∨ code = 2 ∨ code = 3) := by tauto
        omega
      simp [hcode, hother]

theorem mark_source (x : Cst) (row n : Nat) (source : TableSource) (state : RowState) (hrow : row < 8) :
    (x.mark row source state).source n = if row = n then source else x.source n := by
  simp only [Cst.source, Cst.mark, Vector.getElem?_setIfInBounds, hrow, if_true]
  split <;> rfl

theorem mark_rowState (x : Cst) (row n : Nat) (source : TableSource) (state : RowState) (hrow : row < 8) :
    (x.mark row source state).rowState n = if row = n then state else x.rowState n := by
  simp only [Cst.rowState, Cst.mark, Vector.getElem?_setIfInBounds, hrow, if_true]
  split <;> rfl

/-- The load of a row in one equation: its table, its source and state, and the report stream (R200). -/
theorem resetLoad_eq (row : Nat) (s : State) : ∃ q : Rps, s.resetLoad row =
    ((s.setTable row (tableValues row ((s.cst.row row).loaded row))).withCst (s.cst.mark row
      (if (s.cst.row row).passes row then .store else .default)
      (if (s.cst.row row).passes row then .good else .bad))).withRps q := by
  obtain ⟨hrps, hcst, -⟩ := State.setTable_others row (tableValues row ((s.cst.row row).loaded row)) s
  unfold State.resetLoad State.loadTable
  split
  · rename_i hpasses
    exact ⟨s.rps, by simp only [hcst, hpasses, if_true, ← hrps]; rfl⟩
  · rename_i hfails
    simp only [hcst, hfails]
    exact ⟨_, rfl⟩

/-- What a load reads of the rows: they stay as they were. -/
theorem resetLoad_row (row n : Nat) (s : State) : (s.resetLoad row).cst.row n = s.cst.row n := by
  obtain ⟨q, h⟩ := resetLoad_eq row s
  rw [h]
  rfl

theorem resetLoad_source (row n : Nat) (hrow : row < 8) (s : State) : (s.resetLoad row).cst.source n =
    if row = n then (if (s.cst.row row).passes row then .store else .default) else s.cst.source n := by
  obtain ⟨q, h⟩ := resetLoad_eq row s
  rw [h]
  exact mark_source _ _ _ _ _ hrow

theorem resetLoad_rowState (row n : Nat) (hrow : row < 8) (s : State) : (s.resetLoad row).cst.rowState n =
    if row = n then (if (s.cst.row row).passes row then .good else .bad) else s.cst.rowState n := by
  obtain ⟨q, h⟩ := resetLoad_eq row s
  rw [h]
  exact mark_rowState _ _ _ _ _ hrow

theorem resetLoad_range (row : Nat) (s : State) : (s.resetLoad row).rgu.range =
    if row = 0 then rangeTableOf (tableValues row ((s.cst.row row).loaded row)) else s.rgu.range := by
  obtain ⟨q, h⟩ := resetLoad_eq row s
  rw [h]
  exact setTable_range _ _ _

theorem resetLoad_walk (row : Nat) (s : State) : (s.resetLoad row).rgu.walk =
    if row = 1 then walkTableOf (tableValues row ((s.cst.row row).loaded row)) else s.rgu.walk := by
  obtain ⟨q, h⟩ := resetLoad_eq row s
  rw [h]
  exact setTable_walk _ _ _

theorem resetLoad_mirror (row : Nat) (s : State) : (s.resetLoad row).anu.mirror.correction =
    if row = 2 then correctionOf (tableValues row ((s.cst.row row).loaded row)) else s.anu.mirror.correction := by
  obtain ⟨q, h⟩ := resetLoad_eq row s
  rw [h]
  exact setTable_mirror _ _ _

theorem resetLoad_head (row : Nat) (s : State) : (s.resetLoad row).anu.head.correction =
    if row = 3 then correctionOf (tableValues row ((s.cst.row row).loaded row)) else s.anu.head.correction := by
  obtain ⟨q, h⟩ := resetLoad_eq row s
  rw [h]
  exact setTable_head _ _ _

theorem resetLoad_camera (row n : Nat) (hn : n < 4) (s : State) : (s.resetLoad row).phc.camera n =
    if row = n + 4 then cameraOf (tableValues row ((s.cst.row row).loaded row)) else s.phc.camera n := by
  obtain ⟨q, h⟩ := resetLoad_eq row s
  rw [h]
  exact setTable_camera _ _ hn _ _

/-- Every table loaded from its row, or its default (R200). -/
def Loaded (rows : Cst) (t : State) : Prop :=
  (∀ row, row < 8 → t.cst.source row = (if (rows.row row).passes row then .store else .default) ∧
    t.cst.rowState row = (if (rows.row row).passes row then .good else .bad)) ∧
  t.rgu.range = rangeTableOf (tableValues 0 ((rows.row 0).loaded 0)) ∧
  t.rgu.walk = walkTableOf (tableValues 1 ((rows.row 1).loaded 1)) ∧
  t.anu.mirror.correction = correctionOf (tableValues 2 ((rows.row 2).loaded 2)) ∧
  t.anu.head.correction = correctionOf (tableValues 3 ((rows.row 3).loaded 3)) ∧
  ∀ n, n < 4 → t.phc.camera n = cameraOf (tableValues (4 + n) ((rows.row (4 + n)).loaded (4 + n)))

theorem resetLoads_loaded (s : State) : Loaded s.cst ((List.range 8).foldl (fun t row => t.resetLoad row) s) := by
  have hrows : List.range 8 = [0, 1, 2, 3, 4, 5, 6, 7] := rfl
  simp only [hrows, List.foldl_cons, List.foldl_nil]
  refine ⟨fun row hrow => ?_, ?_, ?_, ?_, ?_, fun n hn => ?_⟩
  · interval_cases row <;> simp [resetLoad_source, resetLoad_rowState, resetLoad_row]
  · simp [resetLoad_range]
  · simp [resetLoad_walk, resetLoad_row]
  · simp [resetLoad_mirror, resetLoad_row]
  · simp [resetLoad_head, resetLoad_row]
  · interval_cases n <;> simp [resetLoad_camera, resetLoad_row]

/-- After a reset (R200, R206). -/
theorem resetPart_loaded (cause : ResetCause) (row : Option Nat) (levels : InputLevels) (s : State) :
    Loaded s.cst (s.resetPart cause row levels) := by
  have hloads := resetLoads_loaded (s.resetBlocks levels)
  unfold State.resetPart State.loadRows
  generalize (List.range 8).foldl (fun t row => t.resetLoad row) (s.resetBlocks levels) = t at hloads ⊢
  exact hloads

end

/-- Settles O4. -/
theorem resetLoadsAndReports : Obligations.ResetLoadsAndReports := by
  intro levels s loaded
  refine ⟨?_, fun hp => ?_, fun htakes => ?_⟩
  · have hnext : exec (.powerOn levels) s = .next (s.resetPart .power none levels).raiseReady := rfl
    have hrps := State.resetPart_rps .power none levels s
    have hloaded := resetPart_loaded .power none levels s
    generalize s.resetPart .power none levels = t at hnext hrps hloaded
    exact ⟨_, hnext, congrArg Rps.queue hrps, hloaded⟩
  · have hnext : exec (.resetLine levels) s = .next (s.resetPart .line s.writtenRow levels).raiseReady := exec_next hp rfl
    have hrps := State.resetPart_rps .line s.writtenRow levels s
    have hloaded := resetPart_loaded .line s.writtenRow levels s
    generalize s.resetPart .line s.writtenRow levels = t at hnext hrps hloaded
    exact ⟨_, hnext, congrArg Rps.queue hrps, hloaded⟩
  · have hnext := exec_next htakes.1 (reset_replies htakes)
    have hrps := State.resetPart_rps .command s.writtenRow levels s
    have hloaded := resetPart_loaded .command s.writtenRow levels s
    generalize s.resetPart .command s.writtenRow levels = t at hnext hrps hloaded
    exact ⟨_, hnext, congrArg (fun q : Rps => q.queue ++ [Record.reply ⟨15, .ok, 0, .nothing⟩]) hrps, hloaded⟩

end Sys2Proof.Proofs.Resets

/-! The site line controller's own steps (O33 to O38, O57): carrier sense, sending, timers, the assembler and its checks. -/

namespace Sys2Proof.Proofs.SiteLine

open Sys2Proof.Machine Sys2Proof.Proofs.Effects Sys2Proof.Proofs.ShotPath Sys2Proof.Proofs.Layout

section
variable {s : State} {x : Slc} {v now : Nat}

/-! ## Draws and the transmitter (R127, R128) -/

theorem draw_some (h : x.generator = some v) : x.draw = (v, { x with generator := some (lcg v) }) := by
  simp only [Slc.draw, h]

theorem accessTicks_eq (backoff : Nat) : accessTicks backoff = 6400 + 1600 * backoff := by
  simp only [accessTicks, ticksOfUs]
  omega

/-- WAIT with carrier sense low: the backoff drawn, and the access timer by it (R128). -/
theorem enterWait_low (hgenerator : x.generator = some v) (hcarrier : x.carrierSense = false) :
    x.enterWait now = { x with
      tx := .wait
      backoff := v * 32 / 65536
      generator := some (lcg v)
      jam := none
      access := some (now + 6400 + 1600 * (v * 32 / 65536)) } := by
  simp only [Slc.enterWait, draw_some hgenerator, hcarrier, accessTicks_eq, Bool.false_eq_true, if_false, ← Nat.add_assoc]

/-- The beacon timer restarted with a drawn jitter (R131). -/
theorem restartBeaconTimer_eq (hgenerator : x.generator = some v) : x.restartBeaconTimer now = { x with
    generator := some (lcg v), beaconTimer := some (now + 100000 * (100 + v * 20 / 65536)) } := by
  simp only [Slc.restartBeaconTimer, draw_some hgenerator, ticksOfMs, Nat.mul_comm]

/-! ## Carrier sense (R127, R128, R130, R135) -/

/-- Carrier sense rising in WAIT: a new backoff is drawn, and the jam timer runs (R128, R130). -/
theorem carrierUp_wait (hgenerator : x.generator = some v) (hwait : x.tx = .wait) : x.carrierUp now = { x with
    access := none, jam := some (now + 20000000), backoff := v * 32 / 65536
    generator := some ((25173 * v + 13849) % 65536) } := by
  simp only [Slc.carrierUp, hwait, if_true, draw_some hgenerator]
  rfl

theorem breakFrame_hunt {p : Bool} (h : x.assembler = .hunt p) : x.breakFrame = x := if_neg (by simp [h, Assembler.busy])

theorem breakFrame_busy {bs : List Byte} (h : x.assembler = .header bs ∨ x.assembler = .body bs) :
    x.breakFrame = { x with
      assembler := .hunt false, byteGap := none
      counters := { x.counters with broken := if x.counters.broken < 65535 then x.counters.broken + 1 else 65535 } } :=
  if_pos (by rcases h with h | h <;> simp [h, Assembler.busy])

theorem carrierDown_eq (x : Slc) (now : Nat) : Slc.carrierDown now { x with carrierSense := false } = if x.tx = .wait then
    { x with carrierSense := false, jam := none, access := some (now + (6400 + 1600 * x.backoff)) }
  else { x with carrierSense := false } := by
  simp only [Slc.carrierDown, accessTicks_eq]

theorem carrierDown_assembler (x : Slc) (now : Nat) : (Slc.carrierDown now x).assembler = x.assembler := by
  unfold Slc.carrierDown
  split <;> rfl

end

/-- Settles O33. -/
theorem carrierSenseMoves : Obligations.CarrierSenseMoves := by
  intro s hp
  refine ⟨fun hhigh => exec_next hp (if_pos hhigh), fun hlow => exec_next hp (if_neg (by simp [hlow])), fun hlow => ?_,
    fun hhigh t ht => ?_⟩
  · have hrise : effect .carrierSenseRise s = s.withSlc (Slc.carrierUp s.time { s.slc with carrierSense := true }) :=
      if_neg (by simp [hlow])
    refine ⟨fun hother => exec_next hp (hrise.trans (congrArg _ (if_neg hother))), fun v hwait hgenerator => ?_⟩
    exact exec_next hp (hrise.trans (congrArg s.withSlc
      (carrierUp_wait (x := { s.slc with carrierSense := true }) hgenerator hwait)))
  · have hfall : effect .carrierSenseFall s =
        s.withSlc (Slc.carrierDown s.time { s.slc with carrierSense := false }).breakFrame := if_pos hhigh
    have hassembler := carrierDown_assembler { s.slc with carrierSense := false } s.time
    have hcounters : t.counters = s.slc.counters := by
      rw [ht]
      split <;> rfl
    rw [carrierDown_eq, ← ht] at hfall hassembler
    refine ⟨fun ⟨p, hhunt⟩ => ?_, fun ⟨bs, hbusy⟩ => ?_⟩
    · rw [breakFrame_hunt (hassembler.trans hhunt)] at hfall
      exact exec_next hp hfall
    · rw [breakFrame_busy (bs := bs) (by rw [hassembler]; exact hbusy), hcounters] at hfall
      exact exec_next hp hfall

/-! ## Leaving and joining (R131, R133, R134) -/

section
variable {s : State}

theorem leaveEnded_offline (h : s.slc.rejoin = false) : s.leaveEnded = s.withSlc { s.slc with
    tx := .idle, access := none, jam := none, pendingBeacon := false, leaveTimer := none, membership := .offline } :=
  if_neg (by simp [h])

/-- A START that waits for the leave joins the line again (R134, R146). -/
theorem leaveEnded_rejoins (h : s.slc.rejoin = true) :
    s.leaveEnded.slc.membership = .joining ∧ s.leaveEnded.slc.pendingBeacon = true ∧ s.leaveEnded.slc.tx = .wait ∧
      s.leaveEnded.slc.leaveTimer = none ∧ s.leaveEnded.slc.rejoin = false ∧
      s.leaveEnded.slc.counters = ⟨0, 0, 0, 0, 0⟩ ∧
      s.leaveEnded.pru = { s.pru with joinTimer := some (s.time + 30000000) } ∧
      s.leaveEnded = (s.withSlc s.leaveEnded.slc).withPru s.leaveEnded.pru := by
  have hleave : s.leaveEnded = (s.withSlc { s.slc with
      leaveTimer := none, tx := .idle, access := none, jam := none, pendingBeacon := false }).enterJoining := if_pos h
  rw [hleave]
  exact ⟨rfl, rfl, rfl, rfl, rfl, rfl, rfl, rfl⟩

/-- A BEACON asked for in JOINING or LIVE (R125, R128). -/
theorem request_beacon {x : Slc} (now : Nat) (h : x.membership = .joining ∨ x.membership = .live) :
    x.request now .beacon = if x.pendingBeacon then x else if x.tx = .idle then
      Slc.enterWait now { x with pendingBeacon := true } else { x with pendingBeacon := true } := if_pos h

end

/-- Settles O36. -/
theorem lineTimersExpire : Obligations.LineTimersExpire := by
  intro s e hp hle
  refine ⟨fun hwait hjam => ?_, fun hbeacon hmember => ?_, fun hleave => ?_⟩
  · have hexpiry : effect .jamTimerExpiry s = if s.slc.jamReported then s.withSlc { s.slc with jam := none, jamReported := true }
        else (s.withSlc { s.slc with jam := none, jamReported := true }).raise
          (.lineJammed s.slc.pendingHold s.slc.pendingQuiet s.slc.pendingBeacon) := if_pos ⟨hwait, due_of hjam hle⟩
    refine ⟨fun hreported => exec_next hp (hexpiry.trans ?_), fun hfirst hfree => exec_next hp (hexpiry.trans ?_)⟩
    · rw [if_pos hreported, ← hreported]
    · rw [if_neg (by simp [hfirst])]
      exact State.raise_free (k := 0) _ hfree
  · have hexpiry : effect .beaconTimerExpiry s = (s.withSlc { s.slc with beaconTimer := none }).requestBeacon :=
      if_pos (due_of hbeacon hle)
    exact exec_next hp (hexpiry.trans (congrArg s.withSlc (request_beacon _ hmember)))
  · have hexpiry : effect .leaveTimerExpiry s = if s.slc.tx = .wait then s.leaveEnded
        else s.withSlc { s.slc with leaveTimer := none } := if_pos (due_of hleave hle)
    refine ⟨fun hwait hgone => ?_, fun hwait hrejoin => ?_, fun hsend => ?_⟩
    · exact exec_next hp (hexpiry.trans ((if_pos hwait).trans (leaveEnded_offline hgone)))
    · exact ⟨_, exec_next hp (hexpiry.trans (if_pos hwait)), leaveEnded_rejoins hrejoin⟩
    · exact exec_next hp (hexpiry.trans (if_neg (by simp [hsend])))

/-! ## The end of sending (R83, R126 to R129, R131) -/

section
variable {s : State} {f : TxFrame}

theorem sendingEnd_ends (hsend : s.slc.tx = .send) (hframe : s.slc.frame = some f) (hle : f.finish ≤ s.time) :
    effect .sendingEnd s = s.endSending f := by
  show sendingEndAct s = _
  simp only [sendingEndAct, hframe, hsend, hle, and_self, if_true]

theorem sentNotice_eq (f : TxFrame) (s : State) : s.sentNotice f = s.withPhc
    (if f.kind = .quiet ∧ f.inGrantWait = true ∧ s.phc.sequence = .grantWait then { s.phc with requestSent := true }
     else s.phc) := by
  unfold State.sentNotice State.quietSent
  by_cases hkind : f.kind = .quiet
  · by_cases hwait : f.inGrantWait = true ∧ s.phc.sequence = .grantWait
    · simp only [hkind, hwait, and_self, if_true]
    · rw [if_pos hkind, if_neg hwait, if_neg (fun h => hwait h.2)]
      rfl
  · rw [if_neg hkind, if_neg (fun h => hkind h.1)]
    rfl

theorem endSending_other (h : f.leaving = false) : s.endSending f =
    (s.sentNotice f).withSlc (s.slc.endSend s.time f) := if_neg (by simp [h])

theorem endSending_leaving (h : f.leaving = true) : s.endSending f =
    (s.withSlc { s.slc with frame := none, jamReported := false }).leaveEnded := if_pos h

end

/-- Settles O35. -/
theorem sendingEnds : Obligations.SendingEnds := by
  intro s f v hp hsend hframe hle hgenerator base phc
  have hends := sendingEnd_ends hsend hframe hle
  refine ⟨fun hstays hplain => ?_, fun hstays hbeacon hmember => ?_, fun hleaving hgone => ?_, fun hleaving hrejoin => ?_⟩
  · have hslc : s.slc.endSend s.time f = base.afterSend s.time := by
      have hno : ¬(f.kind = .beacon ∧ (s.slc.membership = .joining ∨ s.slc.membership = .live)) := by tauto
      exact congrArg (Slc.afterSend s.time) (if_neg hno)
    rw [endSending_other hstays, sentNotice_eq, hslc] at hends
    refine ⟨fun hnone => exec_next hp (hends.trans (congrArg _ (if_neg ?_))),
      fun hmore hcarrier => exec_next hp (hends.trans (congrArg _ ((if_pos hmore).trans (enterWait_low hgenerator hcarrier))))⟩
    show ¬s.slc.anyPending = true
    simp [hnone]
  · have hslc : s.slc.endSend s.time f = Slc.afterSend s.time { base with
        generator := some (lcg v), beaconTimer := some (s.time + 100000 * (100 + v * 20 / 65536)) } := by
      exact congrArg (Slc.afterSend s.time) ((if_pos ⟨hbeacon, hmember⟩).trans
        (restartBeaconTimer_eq (x := base) hgenerator))
    have hphc : s.sentNotice f = s := if_neg (by simp [hbeacon])
    rw [endSending_other hstays, hphc, hslc] at hends
    refine ⟨fun hnone => exec_next hp (hends.trans (congrArg _ (if_neg ?_))),
      fun hmore hcarrier => exec_next hp (hends.trans (congrArg _ ((if_pos hmore).trans (enterWait_low rfl hcarrier))))⟩
    show ¬s.slc.anyPending = true
    simp [hnone]
  · exact exec_next hp (hends.trans ((endSending_leaving hleaving).trans (leaveEnded_offline (s := s.withSlc base) hgone)))
  · exact ⟨_, exec_next hp (hends.trans (endSending_leaving hleaving)), leaveEnded_rejoins (s := s.withSlc base) hrejoin⟩

end Sys2Proof.Proofs.SiteLine

/-! Frames on the site line (O34, O37, O38, O57): composed, taken byte by byte, and judged. -/

namespace Sys2Proof.Proofs.SiteFrames

open Sys2Proof.Machine Sys2Proof.Proofs.Effects Sys2Proof.Proofs.ShotPath Sys2Proof.Proofs.Layout Sys2Proof.Proofs.SiteLine

/-! ## A byte at the assembler (R135) -/

section
variable {s : State} {b : Byte}

theorem siteByte_deaf (h : s.slc.listening = false) (ok : Bool) : effect (.siteByteReceived b ok) s = s := if_neg (by simp [h])

theorem siteByte_good (h : s.slc.listening = true) : effect (.siteByteReceived b true) s = s.goodByte b := if_pos h

theorem siteByte_bad (h : s.slc.listening = true) : effect (.siteByteReceived b false) s = s.withSlc s.slc.badByte := if_pos h

theorem goodByte_hunt {p : Bool} (h : s.slc.assembler = .hunt p) : s.goodByte b = s.huntByte p b := by
  simp only [State.goodByte, h]

theorem goodByte_header {bs : List Byte} (h : s.slc.assembler = .header bs) : s.goodByte b = s.headerBytes (bs ++ [b]) := by
  simp only [State.goodByte, h]

theorem goodByte_body {bs : List Byte} (h : s.slc.assembler = .body bs) : s.goodByte b = s.bodyBytes (bs ++ [b]) := by
  simp only [State.goodByte, h]

end

/-- Settles O37. -/
theorem assemblerTakesBytes : Obligations.AssemblerTakesBytes := by
  intro s b hp
  refine ⟨fun hdeaf ok => exec_next hp (siteByte_deaf hdeaf ok), fun hlisten p hhunt => ?_, fun hlisten x y hheader hlong => ?_,
    fun bs hbusy t ht => ?_⟩
  · have htaken := (siteByte_good (b := b) hlisten).trans (goodByte_hunt hhunt)
    refine ⟨fun hpreamble hsync => exec_next hp (htaken.trans (if_pos ⟨hpreamble, hsync⟩)),
      fun hother => exec_next hp (htaken.trans (if_neg ?_))⟩
    rintro ⟨hpreamble, hsync⟩
    rcases hother with h | h
    · exact absurd (hpreamble.symm.trans h) nofun
    · exact h hsync
  · have htaken := (siteByte_good (b := b) hlisten).trans (goodByte_header hheader)
    refine exec_next hp (htaken.trans ((if_neg (by simp)).trans (if_pos ?_)))
    simpa [payloadLimit] using hlong
  · have hbroken : s.withSlc s.slc.breakFrame = t := by rw [breakFrame_busy hbusy, ht]
    refine ⟨fun hlisten => exec_next hp ((siteByte_bad hlisten).trans ?_), fun e hgap hle =>
      exec_next hp ((if_pos (due_of hgap hle)).trans hbroken)⟩
    rw [← hbroken]
    exact congrArg _ (if_pos (by rcases hbusy with h | h <;> simp [h, Assembler.busy]))

/-! ## A frame composed (R123, R124, R217) -/

section
variable {s : State}

theorem composeBytes_length (s : State) (k : FrameKind) : (s.composeBytes k).length = 8 + (s.payload k).length := by
  simp [State.composeBytes, siteFrameBytes, coveredBytes, checkBytes, le_length]
  omega

theorem beaconPayload_eq (s : State) : s.beaconPayload =
    [BitVec.ofNat 8 (beaconMembershipCode s.slc.membership),
      (if s.emt.emit.isSome then 1 else 0) + (if s.pwk.ownHold.isSome && s.cmu.settings.announceHolds then 2 else 0),
      BitVec.ofNat 8 (if s.slc.membership = .leaving then [] else s.pru.grants).length] ++
      (if s.slc.membership = .leaving then [] else s.pru.grants).map (BitVec.ofNat 8) := by
  have hflags : flagsByte [s.emitHigh, s.holdFlag] = [(if s.emt.emit.isSome then 1 else 0) +
      (if s.pwk.ownHold.isSome && s.cmu.settings.announceHolds then 2 else 0)] := by
    simp only [State.emitHigh, State.holdFlag]
    cases s.emt.emit.isSome <;> cases (s.pwk.ownHold.isSome && s.cmu.settings.announceHolds) <;> rfl
  simp only [State.beaconPayload, hflags, flatMap_le_one]
  rfl

theorem startSend_eq (f : TxFrame) (x : Slc) : x.startSend f = { x with
    tx := .send, access := none, jam := none, assembler := .hunt false, byteGap := none
    pendingHold := x.pendingHold && f.kind != .hold
    pendingQuiet := x.pendingQuiet && f.kind != .quiet
    pendingBeacon := x.pendingBeacon && f.kind != .beacon
    frame := some f } := by
  cases hkind : f.kind <;> simp [Slc.startSend, Slc.setPending, Slc.hunt, hkind]

theorem firstKind_eq {x : Slc} (h : x.anyPending = true) :
    x.firstKind = some (if x.pendingHold then .hold else if x.pendingQuiet then .quiet else .beacon) := by
  unfold Slc.firstKind
  cases hhold : x.pendingHold with
  | true => rfl
  | false =>
    cases hquiet : x.pendingQuiet with
    | true => rfl
    | false =>
      have hbeacon : x.pendingBeacon = true := by simpa [Slc.anyPending, hhold, hquiet] using h
      simp [hbeacon]

end

/-- Settles O34. -/
theorem frameGoesOut : Obligations.FrameGoesOut := by
  intro s e hp hwait haccess hle hpending k payload body hk hpayload hbody
  have hfirst : s.slc.firstKind = some k := by rw [firstKind_eq hpending, hk]
  have hsends : effect .accessTimerExpiry s = s.withSlc (s.slc.startSend (s.compose k)) := by
    refine (if_pos ⟨hwait, due_of haccess hle⟩).trans ?_
    rw [hfirst]
  have hcomposed : payload = s.payload k := by
    rw [hpayload]
    cases k with
    | hold => rfl
    | quiet => rfl
    | beacon =>
      refine Eq.trans ?_ (beaconPayload_eq s).symm
      cases s.slc.membership <;> rfl
  have hcovered : coveredBytes (BitVec.ofNat 8 (s.cmu.settings.station.getD 0)) (BitVec.ofNat 8 (frameKindCode k)) payload =
      body := by
    rw [hbody, coveredBytes_eq]
    cases k <;> rfl
  have hbytes : s.composeBytes k = [0x55, 0x55, 0xD3] ++ body ++
      [BitVec.ofNat 8 (crc16 body).toNat, BitVec.ofNat 8 ((crc16 body).toNat / 256)] := by
    rw [State.composeBytes, siteFrameBytes, ← hcomposed, hcovered]
    rfl
  have hfinish : s.time + byteTicks * (s.composeBytes k).length = s.time + 1000 * (8 + payload.length) := by
    rw [composeBytes_length, hcomposed]
    rfl
  refine exec_next hp (hsends.trans ?_)
  rw [startSend_eq, State.compose, hbytes, ← hbytes, hfinish, hbytes]

/-! ## A frame byte by byte (R135, R218) -/

/-- The line with an assembler and a byte gap limit. -/
def assembling (a : Assembler) (gap : Option Nat) (s : State) : State :=
  s.withSlc { s.slc with assembler := a, byteGap := gap }

section
variable {s : State} {gap : Option Nat}

theorem exec_goodByte (b : Byte) (a : Assembler) (hp : s.powered = true) (hlisten : s.slc.listening = true) :
    exec (.siteByteReceived b true) (assembling a gap s) = .next ((assembling a gap s).goodByte b) :=
  exec_next hp (siteByte_good (s := assembling a gap s) hlisten)

theorem execAll_cons {i : Instr} {rest : List Instr} {s t : State} (h : exec i s = .next t) :
    execAll (i :: rest) s = execAll rest t := by
  simp only [execAll, h]

theorem bodyBytes_more {bs : List Byte} (h : bs.length < 3 + field bs 2 1 + 2) :
    s.bodyBytes bs = s.withSlc (s.slc.assemble s.time (.body bs)) := if_pos h

theorem bodyBytes_last {bs : List Byte} (h : ¬bs.length < 3 + field bs 2 1 + 2) :
    s.bodyBytes bs = s.completeFrame (bs.getD 0 0) (bs.getD 1 0) (slice bs 3 (field bs 2 1))
      (BitVec.ofNat 16 (field bs (3 + field bs 2 1) 2)) := if_neg h

/-- The whole frame read back from its bytes (R217). -/
theorem bodyFrame {station kind : Byte} {payload : List Byte} {check : Word16}
    (hlength : field ([station, kind, BitVec.ofNat 8 payload.length] ++ (payload ++ checkBytes check)) 2 1 = payload.length) :
    s.completeFrame (([station, kind, BitVec.ofNat 8 payload.length] ++ (payload ++ checkBytes check)).getD 0 0)
      (([station, kind, BitVec.ofNat 8 payload.length] ++ (payload ++ checkBytes check)).getD 1 0)
      (slice ([station, kind, BitVec.ofNat 8 payload.length] ++ (payload ++ checkBytes check)) 3
        (field ([station, kind, BitVec.ofNat 8 payload.length] ++ (payload ++ checkBytes check)) 2 1))
      (BitVec.ofNat 16 (field ([station, kind, BitVec.ofNat 8 payload.length] ++ (payload ++ checkBytes check))
        (3 + field ([station, kind, BitVec.ofNat 8 payload.length] ++ (payload ++ checkBytes check)) 2 1) 2)) =
      s.completeFrame station kind payload check := by
  rw [hlength]
  have hpayload : slice ([station, kind, BitVec.ofNat 8 payload.length] ++ (payload ++ checkBytes check)) 3 payload.length =
      payload := by
    simp [slice]
  have hcheck : field ([station, kind, BitVec.ofNat 8 payload.length] ++ (payload ++ checkBytes check)) (3 + payload.length) 2 =
      check.toNat := by
    rw [← List.append_assoc, field_append_past _ _ (by simp; omega)]
    have hstart : 3 + payload.length - ([station, kind, BitVec.ofNat 8 payload.length] ++ payload).length = 0 := by
      simp
      omega
    rw [hstart, checkBytes, field_le_only, Nat.mod_eq_of_lt (by omega)]
  rw [hpayload, hcheck, BitVec.ofNat_toNat, BitVec.setWidth_eq]
  rfl

/-- The bytes of a frame's body complete it (R135). -/
theorem execAll_body {station kind : Byte} {payload held rest : List Byte} {check : Word16} (hp : s.powered = true)
    (hlisten : s.slc.listening = true) (hshort : payload.length ≤ 17) (hrest : rest ≠ [])
    (hbytes : held ++ rest = payload ++ checkBytes check) :
    execAll (rest.map (.siteByteReceived · true))
      (assembling (.body ([station, kind, BitVec.ofNat 8 payload.length] ++ held)) gap s) =
      .next (s.completeFrame station kind payload check) := by
  induction rest generalizing held gap with
  | nil => exact absurd rfl hrest
  | cons b rest ih =>
    have hbody := exec_goodByte (gap := gap) b (.body ([station, kind, BitVec.ofNat 8 payload.length] ++ held)) hp hlisten
    rw [goodByte_body (bs := [station, kind, BitVec.ofNat 8 payload.length] ++ held) rfl] at hbody
    have hlength : field ([station, kind, BitVec.ofNat 8 payload.length] ++ held ++ [b]) 2 1 = payload.length := by
      simp
      omega
    have hcount : held.length + (rest.length + 1) = payload.length + 2 := by
      have h := congrArg List.length hbytes
      simpa [checkBytes, le_length] using h
    rw [List.map_cons, execAll_cons hbody]
    by_cases hlast : rest = []
    · subst hlast
      have hfull : ¬([station, kind, BitVec.ofNat 8 payload.length] ++ held ++ [b]).length < 3 + payload.length + 2 := by
        simp at hcount ⊢
        omega
      have hall : [station, kind, BitVec.ofNat 8 payload.length] ++ held ++ [b] =
          [station, kind, BitVec.ofNat 8 payload.length] ++ (payload ++ checkBytes check) := by
        rw [List.append_assoc, hbytes]
      rw [hall] at hlength hfull ⊢
      exact congrArg _ ((bodyBytes_last (by rw [hlength]; exact hfull)).trans (bodyFrame hlength))
    · have hmore : ([station, kind, BitVec.ofNat 8 payload.length] ++ held ++ [b]).length < 3 + payload.length + 2 := by
        have hpos := List.length_pos_iff.2 hlast
        simp
        omega
      rw [← hlength] at hmore
      rw [bodyBytes_more hmore, List.append_assoc]
      exact ih hlast (by rw [List.append_assoc]; exact hbytes)

/-- Preamble and sync byte find the assembler in HUNT (R135, R218). -/
theorem execAll_sync {p : Bool} (rest : List Instr) (hp : s.powered = true) (hlisten : s.slc.listening = true) :
    execAll (([0x55, 0x55, 0xD3] : List Byte).map (.siteByteReceived · true) ++ rest) (assembling (.hunt p) gap s) =
      execAll rest (assembling (.header []) (some (s.time + byteGapTicks)) s) := by
  have hpreamble : ∀ p : Bool, exec (.siteByteReceived 0x55 true) (assembling (.hunt p) gap s) =
      .next (assembling (.hunt true) gap s) := fun p =>
    (exec_goodByte 0x55 (.hunt p) hp hlisten).trans (congrArg _ ((goodByte_hunt rfl).trans (if_neg (by decide +revert))))
  have hsync : exec (.siteByteReceived 0xD3 true) (assembling (.hunt true) gap s) =
      .next (assembling (.header []) (some (s.time + byteGapTicks)) s) :=
    (exec_goodByte 0xD3 (.hunt true) hp hlisten).trans (congrArg _ ((goodByte_hunt rfl).trans (if_pos ⟨rfl, rfl⟩)))
  exact (execAll_cons (hpreamble p)).trans ((execAll_cons (hpreamble true)).trans (execAll_cons hsync))

theorem headerBytes_more {bs : List Byte} (h : bs.length < 3) :
    s.headerBytes bs = s.withSlc (s.slc.assemble s.time (.header bs)) := if_pos h

/-- The three bytes of a HEADER with a length in range (R135). -/
theorem execAll_header {station kind length : Byte} (rest : List Instr) (hp : s.powered = true)
    (hlisten : s.slc.listening = true) (hshort : length.toNat ≤ 17) :
    execAll ([station, kind, length].map (.siteByteReceived · true) ++ rest) (assembling (.header []) gap s) =
      execAll rest (assembling (.body [station, kind, length]) (some (s.time + byteGapTicks)) s) := by
  have hfirst : exec (.siteByteReceived station true) (assembling (.header []) gap s) =
      .next (assembling (.header [station]) (some (s.time + byteGapTicks)) s) :=
    (exec_goodByte station (.header []) hp hlisten).trans (congrArg _ ((goodByte_header (bs := []) rfl).trans
      (headerBytes_more (bs := [] ++ [station]) (by simp))))
  have hsecond : exec (.siteByteReceived kind true) (assembling (.header [station]) (some (s.time + byteGapTicks)) s) =
      .next (assembling (.header [station, kind]) (some (s.time + byteGapTicks)) s) :=
    (exec_goodByte kind (.header [station]) hp hlisten).trans (congrArg _ ((goodByte_header (bs := [station]) rfl).trans
      (headerBytes_more (bs := [station] ++ [kind]) (by simp))))
  have hthird : exec (.siteByteReceived length true) (assembling (.header [station, kind]) (some (s.time + byteGapTicks)) s) =
      .next (assembling (.body [station, kind, length]) (some (s.time + byteGapTicks)) s) := by
    have hlimit : ¬payloadLimit < field ([station, kind] ++ [length]) 2 1 := by simp [payloadLimit, hshort]
    exact (exec_goodByte length (.header [station, kind]) hp hlisten).trans
      (congrArg _ ((goodByte_header rfl).trans ((if_neg (by simp)).trans (if_neg hlimit))))
  exact (execAll_cons hfirst).trans ((execAll_cons hsecond).trans (execAll_cons hthird))

end

/-- Settles O57. -/
theorem siteBytesMakeFrame : Obligations.SiteBytesMakeFrame := by
  intro s p station kind payload check hp hlisten hhunt hshort
  have hstart : s = assembling (.hunt p) s.slc.byteGap s := by
    rw [← hhunt]
    rfl
  have hwhole : exec (.siteFrameReceived station kind payload check) s = .next (s.completeFrame station kind payload check) := by
    have hbegins : s.slc.assembler.begins (frameAfterSync station kind payload check) = true := by
      rw [hhunt]
      rfl
    exact exec_next hp ((if_pos ⟨hlisten, hbegins⟩).trans (if_neg (Nat.not_lt.2 hshort)))
  have hlength : (BitVec.ofNat 8 payload.length).toNat ≤ 17 := by
    simp
    omega
  have hbody := execAll_body (station := station) (kind := kind) (gap := some (s.time + byteGapTicks)) (held := [])
    (rest := payload ++ checkBytes check) (check := check) hp hlisten hshort (by simp [checkBytes, le]) rfl
  rw [hwhole, ← hbody]
  conv_lhs => rw [hstart]
  simp only [List.map_append, List.append_assoc]
  rw [execAll_sync _ hp hlisten, execAll_header _ hp hlisten hlength]
  rfl

/-! ## Frames discarded (R136) -/

theorem noRepeats_iff (l : List Nat) : noRepeats l = true ↔ l.Nodup := by
  induction l with
  | nil => simp [noRepeats]
  | cons x rest ih => simp [noRepeats, ih]

theorem grantsInForm_iff (l : List Nat) :
    grantsInForm l = true ↔ l.length ≤ 14 ∧ (∀ g ∈ l, 1 ≤ g ∧ g ≤ 15) ∧ l.Nodup := by
  simp [grantsInForm, noRepeats_iff, and_assoc]

/-- A BEACON's payload of a known membership is its flags and grants, where these are in form (R136, R217). -/
theorem parseBeacon_known {a b c : Byte} {grants : List Byte} {m : Membership} (h : beaconMembershipOf a.toNat = some m) :
    parseBeacon (a :: b :: c :: grants) =
      if grants.length = c.toNat ∧ grantsInForm (grants.map (·.toNat)) = true then
        some (.beacon m (b.getLsbD 0) (b.getLsbD 1) (grants.map (·.toNat)))
      else none := by
  have hsecond : slice (a :: b :: c :: grants) 1 1 = [b] := rfl
  have hlength : (3 ≤ (a :: b :: c :: grants).length ∧ (a :: b :: c :: grants).length = 3 + c.toNat ∧
      grantsInForm (grants.map (·.toNat)) = true) ↔ grants.length = c.toNat ∧ grantsInForm (grants.map (·.toNat)) = true := by
    simp only [List.length_cons]
    constructor
    · rintro ⟨-, hlength, hform⟩
      exact ⟨by omega, hform⟩
    · rintro ⟨hlength, hform⟩
      exact ⟨by omega, by omega, hform⟩
  have hcode : beaconMembershipOf (field (a :: b :: c :: grants) 0 1) = some m := by simpa using h
  have hcount : field (a :: b :: c :: grants) 2 1 = c.toNat := by simp
  simp only [parseBeacon, hcode, hcount, hsecond, List.drop_succ_cons, List.drop_zero, hlength, List.any_cons, List.any_nil,
    Bool.or_false]

theorem parseBeacon_unknown {payload : List Byte} (h : beaconMembershipOf (field payload 0 1) = none) :
    parseBeacon payload = none := by
  simp only [parseBeacon, h]

theorem parseBeacon_short {payload : List Byte} (h : payload.length < 3) : parseBeacon payload = none := by
  have hno : ¬(3 ≤ payload.length ∧ payload.length = 3 + field payload 2 1 ∧
      grantsInForm ((payload.drop 3).map (·.toNat)) = true) := fun hform => by omega
  unfold parseBeacon
  dsimp only
  split
  · exact if_neg hno
  · rfl

theorem beaconMembershipOf_none {n : Nat} (h : ¬(1 ≤ n ∧ n ≤ 3)) : beaconMembershipOf n = none := by
  match n, h with
  | 0, _ => rfl
  | 1, h => exact absurd ⟨by omega, by omega⟩ h
  | 2, h => exact absurd ⟨by omega, by omega⟩ h
  | 3, h => exact absurd ⟨by omega, by omega⟩ h
  | n + 4, _ => rfl

/-- A BEACON's payload out of form (R136). -/
theorem parseBeacon_none {payload : List Byte}
    (h : payload.length < 3 ∨ payload.length ≠ 3 + (payload.getD 2 0).toNat ∨
      ¬(1 ≤ (payload.getD 0 0).toNat ∧ (payload.getD 0 0).toNat ≤ 3) ∨ (∃ g ∈ payload.drop 3, g = 0 ∨ 15 < g.toNat) ∨
      ¬(payload.drop 3).Nodup) : parseBeacon payload = none := by
  match payload with
  | [] | [_] | [_, _] => exact parseBeacon_short (by simp)
  | a :: b :: c :: grants =>
    cases hcode : beaconMembershipOf a.toNat with
    | none => exact parseBeacon_unknown (by simpa using hcode)
    | some m =>
      refine (parseBeacon_known hcode).trans (if_neg ?_)
      rintro ⟨hlength, hform⟩
      obtain ⟨-, hrange, hdistinct⟩ := (grantsInForm_iff _).1 hform
      rcases h with h | h | h | ⟨g, hg, hbad⟩ | h
      · simp at h
        omega
      · simp at h
        omega
      · cases hcode.symm.trans (beaconMembershipOf_none h)
      · have hin := hrange g.toNat (List.mem_map_of_mem hg)
        rcases hbad with rfl | hbig
        · simp at hin
        · omega
      · exact h (List.Nodup.of_map _ hdistinct)

section
variable {s : State} {station kind : Byte} {payload : List Byte} {check : Word16}

theorem frameKindOf_none {n : Nat} (h : n = 0 ∨ 3 < n) : frameKindOf n = none := by
  match n, h with
  | 0, _ => rfl
  | 1, h => omega
  | 2, h => omega
  | 3, h => omega
  | n + 4, _ => rfl

theorem judgeSiteFrame_check (h : crc16 (coveredBytes station kind payload) ≠ check) :
    judgeSiteFrame station kind payload check = .error .check := if_pos h

theorem judgeSiteFrame_station (hcheck : crc16 (coveredBytes station kind payload) = check)
    (h : station = 0 ∨ 15 < station.toNat) : judgeSiteFrame station kind payload check = .error .station :=
  (if_neg (not_not.2 hcheck)).trans (if_pos h)

theorem judgeSiteFrame_kind (hcheck : crc16 (coveredBytes station kind payload) = check)
    (hstation : ¬(station = 0 ∨ 15 < station.toNat)) (h : frameKindOf kind.toNat = none) :
    judgeSiteFrame station kind payload check = .error .kind := by
  refine (if_neg (not_not.2 hcheck)).trans ((if_neg hstation).trans ?_)
  simp only [h]

theorem judgeSiteFrame_form {k : FrameKind} (hcheck : crc16 (coveredBytes station kind payload) = check)
    (hstation : ¬(station = 0 ∨ 15 < station.toNat)) (hkind : frameKindOf kind.toNat = some k)
    (h : parsePayload k payload = none) : judgeSiteFrame station kind payload check = .error .form := by
  refine (if_neg (not_not.2 hcheck)).trans ((if_neg hstation).trans ?_)
  simp only [hkind, h]

theorem siteFrame_deaf (h : s.slc.listening = false) : effect (.siteFrameReceived station kind payload check) s = s :=
  if_neg (by simp [h])

/-- A short frame that is discarded is counted under its cause (R136). -/
theorem siteFrame_discarded {d : Discard} (hp : s.powered = true) (hlisten : s.slc.listening = true)
    (hhunt : s.slc.assembler = .hunt false) (hgap : s.slc.byteGap = none) (hshort : payload.length ≤ 17)
    (h : judgeSiteFrame station kind payload check = .error d) :
    exec (.siteFrameReceived station kind payload check) s =
      .next (s.withSlc { s.slc with counters := s.slc.counters.bump d }) := by
  rw [siteFrame_taken s _ _ _ _ hp hlisten hhunt hgap, if_neg (Nat.not_lt.2 hshort), h]
  rfl

end

/-- Settles O38. -/
theorem framesDiscarded : Obligations.FramesDiscarded := by
  intro s station kind payload check hp good plus
  have hgood : crc16 (coveredBytes station kind payload) = good := by rw [coveredBytes_eq]
  refine ⟨fun hdeaf => exec_next hp (siteFrame_deaf hdeaf), fun hlisten hhunt hgap => ⟨fun hlong => ?_, fun hshort hcheck => ?_,
    fun hshort hcheck hstation => ?_, fun hshort hcheck hlow hhigh => ?_⟩⟩
  · exact (siteFrame_taken s _ _ _ _ hp hlisten hhunt hgap).trans (congrArg _ (if_pos hlong))
  · exact siteFrame_discarded hp hlisten hhunt hgap hshort (judgeSiteFrame_check (hgood.trans_ne hcheck.symm))
  · exact siteFrame_discarded hp hlisten hhunt hgap hshort (judgeSiteFrame_station (hgood.trans hcheck.symm) hstation)
  · have hstation : ¬(station = 0 ∨ 15 < station.toNat) := by
      rintro (rfl | h)
      · simp at hlow
      · omega
    refine ⟨fun hkind => ?_, fun hform => ?_⟩
    · refine siteFrame_discarded hp hlisten hhunt hgap hshort
        (judgeSiteFrame_kind (hgood.trans hcheck.symm) hstation (frameKindOf_none ?_))
      rcases hkind with rfl | hkind
      · exact .inl rfl
      · exact .inr hkind
    · rcases hform with ⟨rfl, hbeacon⟩ | ⟨rfl, hquiet⟩ | ⟨rfl, hoff, hon⟩
      · exact siteFrame_discarded hp hlisten hhunt hgap hshort
          (judgeSiteFrame_form (k := .beacon) (hgood.trans hcheck.symm) hstation rfl (parseBeacon_none hbeacon))
      · exact siteFrame_discarded hp hlisten hhunt hgap hshort
          (judgeSiteFrame_form (k := .quiet) (hgood.trans hcheck.symm) hstation rfl (if_neg hquiet))
      · exact siteFrame_discarded hp hlisten hhunt hgap hshort
          (judgeSiteFrame_form (k := .hold) (hgood.trans hcheck.symm) hstation rfl ((if_neg hoff).trans (if_neg hon)))

end Sys2Proof.Proofs.SiteFrames

/-! What peers say and how they fall silent (O39, O40, O41): the entry of a station through its frames, its window and hold,
its removal, and the notices to PHC. -/

namespace Sys2Proof.Proofs.Peers

open Sys2Proof.Machine Sys2Proof.Proofs.Effects Sys2Proof.Proofs.ShotPath Sys2Proof.Proofs.Photos Sys2Proof.Proofs.SiteFrames

section
variable {s : State} {n k : Nat} {p : Peer}

/-! ## The entry of a station -/

theorem peer_bounds {x : Pru} (h : x.peer n = some p) : 1 ≤ n ∧ n ≤ 15 := by
  unfold Pru.peer at h
  split at h
  · cases h
  · rename_i hn
    by_contra hout
    rw [Vector.getElem?_eq_none (by omega)] at h
    cases h

theorem setPeer_self {x : Pru} (h : x.peer n = some p) : x.setPeer n (some p) = x := by
  unfold Pru.setPeer
  unfold Pru.peer at h
  split at h
  · cases h
  · rename_i hn
    have hslot : x.slots[n - 1]? = some (some p) := Option.join_eq_some_iff.1 h
    rw [if_neg hn]
    congr 1
    refine Vector.ext fun i hi => ?_
    rw [Vector.getElem_setIfInBounds]
    split
    · rename_i heq
      subst heq
      rw [Vector.getElem?_eq_getElem hi] at hslot
      exact (Option.some.inj hslot).symm
    · rfl

theorem updatePeer_some (f : Peer → Peer) (h : s.pru.peer n = some p) :
    s.updatePeer n f = s.withPru (s.pru.setPeer n (some (f p))) := by
  simp only [State.updatePeer, h]

theorem peer_written {x : Pru} (h : 1 ≤ n ∧ n ≤ 15) (e : Option Peer) : (x.setPeer n e).peer n = e :=
  Pru.setPeer_peer x n e h.1 h.2

/-! ## Windows and holds (R156 to R158, R164) -/

/-- A window closed where it is open (R156 to R158). -/
theorem closeWindow_eq (cause : CloseCause) (h : s.pru.peer n = some p) (hfree : s.FreeReport (k + 1)) :
    s.closeWindow n cause = ((s.withPru (s.pru.setPeer n (some { p with window := none }))).withSlc
      (if p.window.isSome then s.slc.request s.time .beacon else s.slc)).withRps
      (if p.window.isSome then s.rps.plusEvent s.cmu.settings s.time (.quietClosed n cause) else s.rps) := by
  simp only [State.closeWindow, h]
  cases hwindow : p.window with
  | none =>
    have hself : s.pru.setPeer n (some { p with window := none }) = s.pru := by
      rw [← hwindow]
      exact setPeer_self h
    rw [hself]
    rfl
  | some e =>
    simp only [Option.isSome_some, if_true, updatePeer_some _ h]
    exact congrArg State.requestBeacon (State.raise_free (k := k) (.quietClosed n cause)
      (s := s.withPru (s.pru.setPeer n (some { p with window := none }))) hfree)

/-- A hold flag takes a value; a change is raised (R164). -/
theorem setPeerHold_eq (on : Bool) (source : HoldSource) (h : s.pru.peer n = some p) (hfree : s.FreeReport (k + 1)) :
    s.setPeerHold n on source = (s.withPru (s.pru.setPeer n (some { p with hold := on }))).withRps
      (if p.hold = on then s.rps else s.rps.plusEvent s.cmu.settings s.time (.peerHold n on source)) := by
  simp only [State.setPeerHold, h]
  by_cases hhold : p.hold = on
  · have hself : s.pru.setPeer n (some { p with hold := on }) = s.pru := by
      rw [← hhold]
      exact setPeer_self h
    rw [if_pos hhold, if_pos hhold, hself]
    rfl
  · rw [if_neg hhold, if_neg hhold, updatePeer_some _ h]
    exact State.raise_free (k := k) (.peerHold n on source) (s := s.withPru (s.pru.setPeer n (some { p with hold := on }))) hfree

theorem free_ite {c : Prop} [Decidable c] {e : Event} (hfree : s.FreeReport (k + 1)) :
    (s.withRps (if c then s.rps.plusEvent s.cmu.settings s.time e else s.rps)).FreeReport k := by
  split
  · exact hfree.plusEvent e
  · exact hfree.mono (by omega)

theorem free_ite_not {c : Prop} [Decidable c] {e : Event} (hfree : s.FreeReport (k + 1)) :
    (s.withRps (if c then s.rps else s.rps.plusEvent s.cmu.settings s.time e)).FreeReport k := by
  split
  · exact hfree.mono (by omega)
  · exact hfree.plusEvent e

/-! ## Removal (R145) -/

/-- The records of a removal before PEER_LOST: the window's and the hold's. -/
def removalReport (s : State) (n : Nat) (p : Peer) : Rps :=
  let q := if p.window.isSome then s.rps.plusEvent s.cmu.settings s.time (.quietClosed n .removed) else s.rps
  if p.hold then q.plusEvent s.cmu.settings s.time (.peerHold n false .removed) else q

theorem removePeer_eq (cause : LossCause) (h : s.pru.peer n = some p) (hfree : s.FreeReport 3) :
    s.removePeer n cause = (((s.withPru (s.pru.setPeer n none)).withSlc
      (if p.window.isSome then s.slc.request s.time .beacon else s.slc)).withRps
      ((removalReport s n p).plusEvent s.cmu.settings s.time (.peerLost n cause))).removalNotice n := by
  have hbounds := peer_bounds h
  have hclosed := closeWindow_eq .removed h hfree
  generalize hq : (if p.window.isSome = true then s.rps.plusEvent s.cmu.settings s.time (.quietClosed n .removed) else s.rps) =
    q at hclosed
  generalize hx : (if p.window.isSome = true then s.slc.request s.time .beacon else s.slc) = x at hclosed
  have hfreeq : ((s.withPru (s.pru.setPeer n (some { p with window := none }))).withSlc x |>.withRps q).FreeReport 2 := by
    rw [← hq]
    exact free_ite (s := s) hfree
  have hcleared := setPeerHold_eq false .removed (n := n) (p := { p with window := none })
    (s := ((s.withPru (s.pru.setPeer n (some { p with window := none }))).withSlc x).withRps q)
    (peer_written hbounds _) hfreeq
  have hreport : (if p.hold = false then q else q.plusEvent s.cmu.settings s.time (.peerHold n false .removed)) =
      removalReport s n p := by
    simp only [removalReport, hq]
    cases p.hold <;> rfl
  have hslots : ((s.pru.setPeer n (some { p with window := none })).setPeer n
      (some { p with window := none, hold := false })).setPeer n none = s.pru.setPeer n none := by
    rw [Pru.setPeer_setPeer, Pru.setPeer_setPeer]
  have hlost := State.raise_free (k := 0) (.peerLost n cause)
    (s := ((s.withPru (s.pru.setPeer n none)).withSlc x).withRps (removalReport s n p)) (by
      rw [← hreport]
      exact free_ite_not (k := 1) (s := (s.withPru (s.pru.setPeer n (some { p with window := none }))).withSlc x |>.withRps q)
        hfreeq)
  have hemptied : ((s.closeWindow n .removed).setPeerHold n false .removed).withPru
      (((s.closeWindow n .removed).setPeerHold n false .removed).pru.setPeer n none) =
      ((s.withPru (s.pru.setPeer n none)).withSlc x).withRps (removalReport s n p) := by
    rw [hclosed, hcleared, ← hreport, ← hslots]
    rfl
  have hremoved : s.removePeer n cause = ((((s.closeWindow n .removed).setPeerHold n false .removed).withPru
      (((s.closeWindow n .removed).setPeerHold n false .removed).pru.setPeer n none)).raise (.peerLost n cause)).removalNotice
      n := by
    simp only [State.removePeer, h]
  rw [hremoved, hemptied, hlost]
  rfl

theorem removalNotice_other (h : s.phc.sequence ≠ .grantWait) : s.removalNotice n = s := if_neg h

end

/-- Settles O41. -/
theorem peerTimersExpire : Obligations.PeerTimersExpire := by
  refine ⟨fun s n p hp hpeer => ⟨fun hearly => ?_, fun hle hother hfree q1 q2 hq1 hq2 => ?_⟩,
    fun s n p hp hpeer => ⟨fun hclosed => ?_, fun e hopen => ⟨fun hearly => ?_, fun hle hfree => ?_⟩⟩⟩
  · have hage : (s.pru.peer n).map (·.age) = some p.age := by rw [hpeer]; rfl
    exact exec_next hp (if_neg (not_due_of hage hearly))
  · have hage : (s.pru.peer n).map (·.age) = some p.age := by rw [hpeer]; rfl
    have hreport : removalReport s n p = q2 := by rw [hq2, hq1]; rfl
    have hremoved := removePeer_eq .aged hpeer hfree
    rw [hreport] at hremoved
    exact exec_next hp ((if_pos (due_of hage hle)).trans (hremoved.trans (removalNotice_other hother)))
  · have hwindow : (s.pru.peer n).bind (·.window) = none := by rw [hpeer]; exact hclosed
    exact exec_next hp (if_neg (by simp [hwindow, due]))
  · have hwindow : (s.pru.peer n).bind (·.window) = some e := by rw [hpeer]; exact hopen
    exact exec_next hp (if_neg (not_due_of hwindow hearly))
  · have hwindow : (s.pru.peer n).bind (·.window) = some e := by rw [hpeer]; exact hopen
    have hclosed := closeWindow_eq (k := 0) .expiry hpeer hfree
    rw [hopen] at hclosed
    exact exec_next hp ((if_pos (due_of hwindow hle)).trans hclosed)

/-! ## A frame from another station (R140 to R142) -/

section
variable {s : State} {n k : Nat} {p : Peer} {c : Contents}

/-- The entry that a frame finds or makes, and the report stream once it has (R141): a new one raises PEER_JOINED. -/
def Heard (s : State) (n : Nat) (spoken : Membership) (p : Peer) (q : Rps) : Prop :=
  s.pru.peer n = some p ∧ q = s.rps ∨
    s.pru.peer n = none ∧ p = ⟨spoken, 0, 0, false, false, none, false⟩ ∧
      q = s.rps.plusEvent s.cmu.settings s.time (.peerJoined n spoken)

/-- An entry refreshed by a frame now (R141). -/
def heard (s : State) (spoken : Membership) (p : Peer) : Peer :=
  { p with seen := spoken, lastHeard := s.time, age := s.time + 30000000 }

theorem hear_eq {spoken : Membership} {q : Rps} (h : Heard s n spoken p q) (hfree : s.FreeReport (k + 1)) :
    s.hear n spoken = (s.withPru (s.pru.setPeer n (some (heard s spoken p)))).withRps q := by
  rcases h with ⟨hpeer, rfl⟩ | ⟨hpeer, rfl, rfl⟩
  · simp only [State.hear, hpeer]
    rfl
  · simp only [State.hear, hpeer]
    exact State.raise_free (k := k) _ (s := s.withPru (s.pru.setPeer n (some (newPeer s.time spoken)))) hfree

theorem Heard.free {spoken : Membership} {q : Rps} (h : Heard s n spoken p q) (hfree : s.FreeReport (k + 1)) :
    (s.withRps q).FreeReport k := by
  rcases h with ⟨-, rfl⟩ | ⟨-, -, rfl⟩
  · exact hfree.mono (by omega)
  · exact hfree.plusEvent _

theorem takeValid_other (hown : s.cmu.settings.station ≠ some n) (hspoken : c.spoken ≠ .leaving) :
    s.takeValid n c = (s.hear n c.spoken).takeContents (s.cmu.settings.station.getD 0) n c :=
  (if_neg hown).trans (if_neg hspoken)

theorem takeValid_leaving (hown : s.cmu.settings.station ≠ some n) (hspoken : c.spoken = .leaving) :
    s.takeValid n c = s.removePeer n .left := (if_neg hown).trans (if_pos hspoken)

theorem parseQuiet {payload : List Byte} (h : payload.length = 2) :
    parsePayload .quiet payload = some (.quiet (unle payload)) := if_pos h

theorem grantQuiet_eq {w : Nat} (h : s.pru.peer n = some p) (hfree : s.FreeReport (k + 1)) : s.grantQuiet n w =
    ((s.withPru (s.pru.setPeer n (some { p with window := some (s.time + 100000 * min w 500) }))).withRps
      (s.rps.plusEvent s.cmu.settings s.time (.quietGranted n (min w 500) p.window.isSome (decide (500 < w))))).withSlc
      (s.slc.request s.time .beacon) := by
  have hticks : ticksOfMs (grantedLength w) = 100000 * min w 500 := Nat.mul_comm _ _
  simp only [State.grantQuiet, h, updatePeer_some _ h, hticks]
  exact congrArg State.requestBeacon (State.raise_free (k := k) _
    (s := s.withPru (s.pru.setPeer n (some { p with window := some (s.time + 100000 * min w 500) }))) hfree)

end

/-- Settles O39. -/
theorem quietFrameGrants : Obligations.QuietFrameGrants := by
  intro s n w p hp hlisten hhunt hgap hlow hhigh hw hown hpeer hfree payload frame heard'
  have htaken : exec frame s = .next ((s.hear n .live).takeQuiet n w) := by
    have hparsed : parsePayload .quiet payload = some (.quiet w) := by
      rw [parseQuiet rfl, unle_two w hw]
    exact (siteFrame_valid s n 2 payload .quiet (.quiet w) hp hlisten hhunt hgap hlow hhigh (by simp [payload]) rfl
      hparsed).trans (congrArg _ (takeValid_other (c := .quiet w) hown nofun))
  have hheard := hear_eq (k := 0) (spoken := .live) (.inl ⟨hpeer, rfl⟩) hfree
  have hentry : (s.withPru (s.pru.setPeer n (some heard'))).pru.peer n = some heard' := peer_written ⟨hlow, hhigh⟩ _
  rw [hheard] at htaken
  refine ⟨fun hpos => htaken.trans (congrArg _ ((if_neg (by omega)).trans ?_)), fun hzero hopen =>
    htaken.trans (congrArg _ ((if_pos hzero).trans ?_)), fun hzero hclosed =>
    htaken.trans (congrArg _ ((if_pos hzero).trans ?_))⟩
  · refine (grantQuiet_eq (k := 0) (s := s.withPru (s.pru.setPeer n (some heard'))) hentry hfree).trans ?_
    simp only [State.withPru_pru, Pru.setPeer_setPeer]
    rfl
  · refine (closeWindow_eq (k := 0) (s := s.withPru (s.pru.setPeer n (some heard'))) .cancel hentry hfree).trans ?_
    simp only [State.withPru_pru, Pru.setPeer_setPeer]
    rw [if_pos hopen, if_pos hopen]
    rfl
  · have hnone : ¬heard'.window.isSome = true := by simp [heard', hclosed]
    have hsame : ({ heard' with window := none } : Peer) = heard' := by simp [heard', hclosed]
    refine (closeWindow_eq (k := 0) (s := s.withPru (s.pru.setPeer n (some heard'))) .cancel hentry hfree).trans ?_
    rw [if_neg hnone, if_neg hnone, hsame]
    simp only [State.withPru_pru, Pru.setPeer_setPeer]
    rfl

/-! ## The beacon notice at PHC (R83, R85, R87) -/

section
variable {s : State} {n : Nat} {x : Phc}

theorem filter_ne (l : List Nat) (n : Nat) : (l.filter fun k => k != n) = l.filter (· ≠ n) :=
  List.filter_congr fun k _ => by simp [bne, beq_eq_decide]

/-- A grant wait goes on while an expected station is not granted. -/
theorem checkGrant_waits (h : ∃ k ∈ s.phc.expected, k ∉ s.phc.granted) : s.checkGrant = s := by
  obtain ⟨k, hk, hno⟩ := h
  refine if_neg fun hfull => ?_
  have hnone : s.phc.ungranted = [] := List.isEmpty_iff.1 hfull.2
  have hin : k ∈ s.phc.ungranted := List.mem_filter.2 ⟨hk, by simpa using hno⟩
  rw [hnone] at hin
  cases hin

/-- A full grant exposes with nothing ungranted (R85). -/
theorem checkGrant_exposes (hwait : s.phc.sequence = .grantWait) (h : ∀ k ∈ s.phc.expected, k ∈ s.phc.granted) :
    s.checkGrant = s.withPhc (s.exposing []) := by
  have hnone : s.phc.ungranted = [] := List.filter_eq_nil_iff.2 fun k hk => by simpa using h k hk
  have hexposed : s.checkGrant = s.expose := if_pos ⟨hwait, by rw [Phc.fullGrant, hnone]; rfl⟩
  rw [hexposed, expose_eq, hnone]

theorem beaconNotice_idle (listed firing : Bool) (h : s.phc.sequence = .idle ∨ s.phc.sequence = .settle) :
    s.beaconNotice n listed firing = s := by
  rcases h with h | h <;> simp only [State.beaconNotice, h]

theorem beaconNotice_expose (listed firing : Bool) (h : s.phc.sequence = .expose) : s.beaconNotice n listed firing =
    s.withPhc (if firing then { s.phc with exposure := s.phc.exposure.light } else s.phc) := by
  simp only [State.beaconNotice, h]
  cases firing <;> rfl

theorem beaconNotice_wait (listed firing : Bool) (h : s.phc.sequence = .grantWait) :
    s.beaconNotice n listed firing = (s.withPhc (s.phc.noteGrant n listed)).checkGrant := by
  simp only [State.beaconNotice, h]

theorem noteGrant_unasked (listed : Bool) (h : x.requestSent = false ∨ n ∉ x.expected) : x.noteGrant n listed = x := by
  refine if_neg fun hasked => ?_
  rw [Bool.and_eq_true, List.contains_iff_mem] at hasked
  rcases h with h | h
  · exact absurd (h.symm.trans hasked.1) nofun
  · exact h hasked.2

theorem noteGrant_removes (hsent : x.requestSent = true) (hexpected : n ∈ x.expected) :
    x.noteGrant n false = { x with granted := x.granted.filter (· ≠ n) } := by
  simp only [Phc.noteGrant, hsent, List.contains_iff_mem.2 hexpected, Bool.and_self, if_true, Bool.false_eq_true, if_false,
    filter_ne]

theorem noteGrant_adds (hsent : x.requestSent = true) (hexpected : n ∈ x.expected) :
    x.noteGrant n true = { x with granted := if n ∈ x.granted then x.granted else x.granted ++ [n] } := by
  simp only [Phc.noteGrant, hsent, List.contains_iff_mem.2 hexpected, Bool.and_self, if_true, List.contains_iff_mem]

end

/-! ## HOLD and BEACON frames (R142, R164, R217) -/

section
variable {s : State} {n k : Nat} {p : Peer}

/-- The hold flag of an entry that a frame finds or makes (R141, R164). -/
theorem hear_hold {spoken : Membership} {q : Rps} (on : Bool) (source : HoldSource) (hn : 1 ≤ n ∧ n ≤ 15)
    (h : Heard s n spoken p q) (hfree : s.FreeReport 2) : (s.hear n spoken).setPeerHold n on source =
      (s.withPru (s.pru.setPeer n (some { heard s spoken p with hold := on }))).withRps
        (if p.hold = on then q else q.plusEvent s.cmu.settings s.time (.peerHold n on source)) := by
  have hset := setPeerHold_eq (k := 0) on source (n := n) (p := heard s spoken p)
    (s := (s.withPru (s.pru.setPeer n (some (heard s spoken p)))).withRps q) (peer_written hn _) (h.free (k := 1) hfree)
  rw [hear_eq (k := 1) h hfree, hset]
  simp only [State.withRps_pru, State.withPru_pru, Pru.setPeer_setPeer]
  rfl

/-- A beacon's flags and grants in the entry, and its notice to PHC (R142, R164). -/
theorem hear_beacon {spoken : Membership} {q : Rps} (firing hold listed : Bool) (hn : 1 ≤ n ∧ n ≤ 15)
    (h : Heard s n spoken p q) (hfree : s.FreeReport 2) : (s.hear n spoken).takeBeacon n firing hold listed =
      ((s.withPru (s.pru.setPeer n (some { heard s spoken p with
        firing := firing, hold := hold, grantedToMe := listed }))).withRps
        (if p.hold = hold then q else q.plusEvent s.cmu.settings s.time (.peerHold n hold .beacon))).beaconNotice
        n listed firing := by
  have hupdated := updatePeer_some (n := n) (fun p => { p with firing := firing, grantedToMe := listed })
    (s := (s.withPru (s.pru.setPeer n (some (heard s spoken p)))).withRps q) (peer_written hn (some (heard s spoken p)))
  have hset := setPeerHold_eq (k := 0) hold .beacon (n := n)
    (p := { heard s spoken p with firing := firing, grantedToMe := listed })
    (s := (s.withPru (s.pru.setPeer n (some { heard s spoken p with firing := firing, grantedToMe := listed }))).withRps q)
    (peer_written hn _) (h.free (k := 1) hfree)
  simp only [State.withRps_pru, State.withPru_pru, Pru.setPeer_setPeer] at hupdated hset
  rw [State.takeBeacon, hear_eq (k := 1) h hfree, hupdated]
  exact congrArg _ hset

/-- A BEACON's payload is read back (R217). -/
theorem parseBeacon_composed {a : Byte} {m : Membership} {grants : List Nat} (firing hold : Bool)
    (hm : beaconMembershipOf a.toNat = some m) (hrange : ∀ g ∈ grants, 1 ≤ g ∧ g ≤ 15) (hdistinct : grants.Nodup)
    (hfew : grants.length ≤ 14) :
    parseBeacon ([a, (if firing then 1 else 0) + (if hold then 2 else 0), BitVec.ofNat 8 grants.length] ++
      grants.map (BitVec.ofNat 8)) = some (.beacon m firing hold grants) := by
  have hback : (grants.map (BitVec.ofNat 8)).map (·.toNat) = grants := by
    rw [List.map_map]
    refine (List.map_congr_left fun g hg => ?_).trans (List.map_id _)
    exact station_toNat g (hrange g hg).2
  have hform : (grants.map (BitVec.ofNat 8)).length = (BitVec.ofNat 8 grants.length).toNat ∧
      grantsInForm ((grants.map (BitVec.ofNat 8)).map (·.toNat)) = true := by
    rw [hback, grantsInForm_iff]
    refine ⟨?_, hfew, hrange, hdistinct⟩
    simp
    omega
  have hparsed := parseBeacon_known (b := (if firing then 1 else 0) + (if hold then 2 else 0)) hm
    (c := BitVec.ofNat 8 grants.length) (grants := grants.map (BitVec.ofNat 8))
  rw [if_pos hform, hback] at hparsed
  refine hparsed.trans ?_
  cases firing <;> cases hold <;> rfl

end

/-- What a notice that a station lists or leaves brings to PHC, as the statements spell it (R83, R85, R87). -/
theorem beaconNotice_of {s : State} {n : Nat} {listed firing : Bool} {x : Phc}
    (h : (s.phc.sequence = .idle ∨ s.phc.sequence = .settle) ∧ x = s.phc ∨
      s.phc.sequence = .expose ∧ x = (if firing then { s.phc with exposure := { s.phc.exposure with
        cameras := s.phc.exposure.cameras.map fun c => { c with peerLit := c.peerLit || c.trigger } } } else s.phc) ∨
      s.phc.sequence = .grantWait ∧ (s.phc.requestSent = false ∨ n ∉ s.phc.expected) ∧
        (∃ k ∈ s.phc.expected, k ∉ s.phc.granted) ∧ x = s.phc ∨
      s.phc.sequence = .grantWait ∧ s.phc.requestSent = true ∧ n ∈ s.phc.expected ∧ listed = false ∧
        x = { s.phc with granted := s.phc.granted.filter (· ≠ n) } ∨
      s.phc.sequence = .grantWait ∧ s.phc.requestSent = true ∧ n ∈ s.phc.expected ∧ listed = true ∧
        (∃ k ∈ s.phc.expected, k ≠ n ∧ k ∉ s.phc.granted) ∧
        x = { s.phc with granted := if n ∈ s.phc.granted then s.phc.granted else s.phc.granted ++ [n] } ∨
      s.phc.sequence = .grantWait ∧ s.phc.requestSent = true ∧ n ∈ s.phc.expected ∧ listed = true ∧
        (∀ k ∈ s.phc.expected, k ≠ n → k ∈ s.phc.granted) ∧ x = s.exposing []) :
    s.beaconNotice n listed firing = s.withPhc x := by
  rcases h with ⟨hidle, rfl⟩ | ⟨hexpose, rfl⟩ | ⟨hwait, hunasked, hmissing, rfl⟩ | ⟨hwait, hsent, hexpected, rfl, rfl⟩ |
    ⟨hwait, hsent, hexpected, rfl, hmissing, rfl⟩ | ⟨hwait, hsent, hexpected, rfl, hall, rfl⟩
  · exact beaconNotice_idle _ _ hidle
  · exact beaconNotice_expose _ _ hexpose
  · rw [beaconNotice_wait _ _ hwait, noteGrant_unasked _ hunasked]
    exact checkGrant_waits hmissing
  · rw [beaconNotice_wait _ _ hwait, noteGrant_removes hsent hexpected]
    exact checkGrant_waits ⟨n, hexpected, by simp⟩
  · rw [beaconNotice_wait _ _ hwait, noteGrant_adds hsent hexpected]
    obtain ⟨k, hk, hne, hno⟩ := hmissing
    refine checkGrant_waits ⟨k, hk, ?_⟩
    show k ∉ if n ∈ s.phc.granted then s.phc.granted else s.phc.granted ++ [n]
    split <;> simp [hno, hne]
  · rw [beaconNotice_wait _ _ hwait, noteGrant_adds hsent hexpected]
    refine checkGrant_exposes (s := s.withPhc _) hwait fun k hk => ?_
    show k ∈ if n ∈ s.phc.granted then s.phc.granted else s.phc.granted ++ [n]
    by_cases hkn : k = n
    · subst hkn
      split <;> simp_all
    · have hin := hall k hk hkn
      split <;> simp [hin]

/-- What a removal brings to PHC, as the statements spell it (R84, R85). -/
theorem removalNotice_of {s : State} {n : Nat} {x : Phc}
    (h : s.phc.sequence ≠ .grantWait ∧ x = s.phc ∨
      s.phc.sequence = .grantWait ∧ (∃ k ∈ s.phc.expected, k ≠ n ∧ k ∉ s.phc.granted) ∧ x = { s.phc with
        expected := s.phc.expected.filter (· ≠ n), granted := s.phc.granted.filter (· ≠ n) } ∨
      s.phc.sequence = .grantWait ∧ (∀ k ∈ s.phc.expected, k ≠ n → k ∈ s.phc.granted) ∧ x = s.exposing []) :
    s.removalNotice n = s.withPhc x := by
  have hdrops : s.phc.sequence = .grantWait → s.removalNotice n = (s.withPhc { s.phc with
      expected := s.phc.expected.filter (· ≠ n), granted := s.phc.granted.filter (· ≠ n) }).checkGrant := fun hwait => by
    simp only [State.removalNotice, hwait, if_true, filter_ne]
  rcases h with ⟨hother, rfl⟩ | ⟨hwait, ⟨k, hk, hne, hno⟩, rfl⟩ | ⟨hwait, hall, rfl⟩
  · exact removalNotice_other hother
  · rw [hdrops hwait]
    exact checkGrant_waits ⟨k, List.mem_filter.2 ⟨hk, by simpa using hne⟩, fun hin => hno (List.mem_filter.1 hin).1⟩
  · rw [hdrops hwait]
    refine checkGrant_exposes (s := s.withPhc _) hwait fun k hk => ?_
    obtain ⟨hk, hne⟩ := List.mem_filter.1 hk
    exact List.mem_filter.2 ⟨hall k hk (by simpa using hne), hne⟩

/-- Settles O40. -/
theorem peerJoinsAndHolds : Obligations.PeerJoinsAndHolds := by
  refine ⟨?_, ?_⟩
  · intro s n on hp hlisten hhunt hgap hlow hhigh hown hfree frame
    have hparsed : parsePayload .hold [if on then 1 else 0] = some (.hold on) := by cases on <;> rfl
    have htaken : exec frame s = .next ((s.hear n .live).setPeerHold n on .hold) :=
      (siteFrame_valid s n 3 [if on then 1 else 0] .hold (.hold on) hp hlisten hhunt hgap hlow hhigh (by simp) rfl
        hparsed).trans (congrArg _ (takeValid_other (c := .hold on) hown nofun))
    refine ⟨fun hnone => htaken.trans (congrArg _ ?_), fun p hpeer => htaken.trans (congrArg _ ?_)⟩
    · rw [hear_hold on .hold ⟨hlow, hhigh⟩ (.inr ⟨hnone, rfl, rfl⟩) hfree]
      cases on <;> rfl
    · exact hear_hold on .hold ⟨hlow, hhigh⟩ (.inl ⟨hpeer, rfl⟩) hfree
  · intro s own n m firing hold grants hp hlisten hhunt hgap hlow hhigh hstation hne hrange hdistinct hfew hfree payload beacon
      listed
    have hown : s.cmu.settings.station ≠ some n := by
      rw [hstation]
      exact fun h => hne (Option.some.inj h)
    have htaken : ∀ a : Byte, beaconMembershipOf a.toNat = some m → payload = [a,
        (if firing then 1 else 0) + (if hold then 2 else 0), BitVec.ofNat 8 grants.length] ++ grants.map (BitVec.ofNat 8) →
        exec beacon s = .next (s.takeValid n (.beacon m firing hold grants)) := by
      intro a ha hpayload
      have hparsed : parsePayload .beacon payload = some (.beacon m firing hold grants) := by
        rw [hpayload]
        exact parseBeacon_composed firing hold ha hrange hdistinct hfew
      exact siteFrame_valid s n 1 payload .beacon _ hp hlisten hhunt hgap hlow hhigh (by simp [payload]; omega) rfl hparsed
    refine ⟨fun hm p joined q x hentry hq hx => ?_, fun hm => ⟨fun hnone => ?_, fun p q1 q2 x hpeer hq1 hq2 hx => ?_⟩⟩
    · have hbeacon : exec beacon s = .next (s.takeValid n (.beacon m firing hold grants)) := by
        rcases hm with rfl | rfl
        · exact htaken 1 rfl rfl
        · exact htaken 2 rfl rfl
      have hspoken : (Contents.beacon m firing hold grants).spoken ≠ .leaving := by
        rcases hm with rfl | rfl <;> nofun
      have hheard : Heard s n m p joined := hentry
      have hvalid := takeValid_other (s := s) hown hspoken
      rw [hstation] at hvalid
      refine hbeacon.trans (congrArg _ (hvalid.trans ((hear_beacon firing hold listed ⟨hlow, hhigh⟩ hheard
        (hfree.mono (by omega))).trans ?_)))
      rw [← hq]
      exact beaconNotice_of (s := (s.withPru _).withRps q) hx
    · subst hm
      refine (htaken 3 rfl rfl).trans (congrArg _ ((takeValid_leaving hown rfl).trans ?_))
      simp only [State.removePeer, hnone]
    · subst hm
      have hremoved := removePeer_eq .left hpeer hfree
      have hreport : removalReport s n p = q2 := by
        rw [hq2, hq1]
        rfl
      rw [hreport] at hremoved
      exact (htaken 3 rfl rfl).trans (congrArg _ ((takeValid_leaving hown rfl).trans
        (hremoved.trans (removalNotice_of (s := ((s.withPru _).withSlc _).withRps _) hx))))

end Sys2Proof.Proofs.Peers

/-! The beginning and the end of a run (O42, O43, O50, O51): joining, plan end, DUPLICATE and STOP at every block. -/

namespace Sys2Proof.Proofs.Runs

open Sys2Proof.Machine Sys2Proof.Proofs.Effects Sys2Proof.Proofs.ShotPath Sys2Proof.Proofs.Walking Sys2Proof.Proofs.SiteLine
open Sys2Proof.Proofs.Photos Sys2Proof.Proofs.Abandon Sys2Proof.Proofs.Peers Sys2Proof.Proofs.SiteFrames
open Sys2Proof.Proofs.PeerTable Sys2Proof.Proofs.Resets

/-! ## The end of a run at the shot path and on the line (R24, R33, R46, R64, R133) -/

section
variable {s : State} {x : Slc} {now : Nat}

/-- EMT at the end of a run: the fired count is kept for a close notice (R24, R37). -/
def emtEnded (x : Emt) : Emt :=
  { x with
    startTime := none, schedule := none, generator := none, context := none, emit := none
    keptFired := x.context.map (·.fired) }

theorem emitFall_eq (s : State) : s.emitFall = (s.withEmt { s.emt with emit := none }).withSlc
    (if s.emt.emit.isSome then s.slc.request s.time .beacon else s.slc) := by
  unfold State.emitFall
  split
  · rfl
  · rename_i hlow
    have hnone : s.emt.emit = none := by simpa using hlow
    rw [← hnone]
    rfl

theorem shotPathRunEnd_eq (s : State) : s.shotPathRunEnd = (((s.withEmt (emtEnded s.emt)).withRgu
    { s.rgu with openShots := [], record := none }).withPta ⟨none, none, none, none⟩).withSlc
    (if s.emt.emit.isSome then s.slc.request s.time .beacon else s.slc) := by
  rw [State.shotPathRunEnd, State.emtRunEnd, emitFall_eq]
  rfl

theorem draw_fields (x : Slc) : x.draw.2 = { x with generator := x.draw.2.generator } := by
  unfold Slc.draw
  split <;> rfl

theorem request_membership (x : Slc) (now : Nat) (k : FrameKind) : (x.request now k).membership = x.membership := by
  unfold Slc.request Slc.join
  split
  · split
    · rfl
    · have hset : (x.setPending k true).membership = x.membership := by cases k <;> rfl
      split
      · rw [Slc.enterWait, draw_fields]
        exact hset
      · exact hset
  · rfl

/-- The leave of a station that is not leaving: the LEAVING beacon pending and 50 ms to send it (R133). -/
theorem leave_begins (h : x.membership ≠ .leaving) :
    (x.leave now).membership = .leaving ∧ (x.leave now).pendingBeacon = true ∧ (x.leave now).pendingHold = false ∧
      (x.leave now).pendingQuiet = false ∧ (x.leave now).leaveTimer = some (now + 5000000) ∧
      (x.leave now).beaconTimer = none := by
  have hleave : x.leave now = Slc.join now .beacon { x with
      membership := .leaving, pendingHold := false, pendingQuiet := false, beaconTimer := none
      leaveTimer := some (now + 5000000), rejoin := false, assembler := .hunt false, byteGap := none } := if_neg h
  rw [hleave, Slc.join]
  split
  · rename_i hpending
    exact ⟨rfl, hpending, rfl, rfl, rfl, rfl⟩
  · split
    · rw [Slc.enterWait, draw_fields]
      exact ⟨rfl, rfl, rfl, rfl, rfl, rfl⟩
    · exact ⟨rfl, rfl, rfl, rfl, rfl, rfl⟩

/-! ## The end of the join window (R98, R146) -/

/-- The part once the station is LIVE (R146). -/
def livened (s : State) : State :=
  ((s.withPru { s.pru with joinTimer := none }).withSlc
    (Slc.request s.time .beacon { s.slc with membership := .live })).withRps
    (s.rps.plusEvent s.cmu.settings s.time (.live s.pru.entries.length s.pru.liveStations.length))

theorem becomeLive_eq (hfree : s.FreeReport 1) : s.becomeLive = livened s := by
  have hraised := State.raise_free (k := 0) (.live s.pru.entries.length s.pru.liveStations.length)
    (s := (s.withPru { s.pru with joinTimer := none }).withSlc { s.slc with membership := .live }) hfree
  exact congrArg State.requestBeacon hraised

theorem joinExpiry_lives {e : Nat} (hmember : s.slc.membership = .joining) (htimer : s.pru.joinTimer = some e) (hle : e ≤ s.time)
    (hfree : s.FreeReport 1) : effect .joinTimerExpiry s = (livened s).tellLive := by
  rw [← becomeLive_eq hfree]
  exact if_pos ⟨hmember, due_of htimer hle⟩

/-- An armed walker with nothing outgoing takes the record at its START index (R98). -/
theorem tellLive_takes (harmed : s.pwk.armed = true) (hstate : s.pwk.state = .idle) (hout : s.pwk.outgoing = none) :
    s.tellLive = (s.withPwk { s.pwk with armed := false, deferred := none }).walk (.take s.pwk.recordIndex) :=
  (if_pos harmed).trans (defer_walks (s := s.withPwk { s.pwk with armed := false }) _ hout (by simp [hstate]) (by simp [hstate]))

theorem takeRecord_repeat {i target count next : Nat} {counter loaded : Option Nat}
    (hrecord : s.pwk.record i = .repeatFrom target count) (hcounter : s.pwk.counters[i]? = some counter)
    (hstep : counter = none ∧ next = target ∧ loaded = some (count - 1) ∨ counter = some 0 ∧ next = i + 1 ∧ loaded = none ∨
      ∃ k, counter = some (k + 1) ∧ next = target ∧ loaded = some k) :
    s.walkTask (.take i) = (s.withPwk { s.pwk with
      recordIndex := i, counters := s.pwk.counters.setIfInBounds i loaded }, some (.take next)) := by
  have hacts : repeatStep counter i target count = (loaded, next) := by
    rcases hstep with ⟨rfl, rfl, rfl⟩ | ⟨rfl, rfl, rfl⟩ | ⟨k, rfl, rfl, rfl⟩ <;> rfl
  show s.takeRecord i = _
  simp only [State.takeRecord, hrecord, hcounter, Option.getD_some, hacts]
  rfl

theorem takeRecord_end {i : Nat} (hrecord : s.pwk.record i = .planEnd) :
    s.walkTask (.take i) = ((s.withPwk { s.pwk with recordIndex := i }).planDone, none) := by
  show s.takeRecord i = _
  simp only [State.takeRecord, hrecord]

/-- The run ends with its plan, block by block (R101, R198). -/
theorem planDone_eq (hfree : s.FreeReport 1) (hemit : s.emt.emit = none) : s.planDone =
    ((((((s.withRps (s.rps.plusEvent s.cmu.settings s.time (.planDone (s.pwk.lineCounter - 1)))).withPwk s.pwk.toIdle).withCmu
      { s.cmu with device := .ready }).withEmt (emtEnded s.emt)).withRgu { s.rgu with openShots := [], record := none }).withPta
      ⟨none, none, none, none⟩).leaveLine := by
  rw [State.planDone, State.raise_free (k := 0) _ hfree, State.endByPlan, shotPathRunEnd_eq]
  refine congrArg State.leaveLine ?_
  show State.withSlc _ (if s.emt.emit.isSome then _ else _) = _
  rw [hemit]
  rfl

theorem planDone_blocks (hfree : s.FreeReport 1) (hemit : s.emt.emit = none) (hx : s.slc = x) (hnow : s.time = now) :
    s.planDone.cmu = { s.cmu with device := .ready } ∧
      s.planDone.rps = s.rps.plusEvent s.cmu.settings s.time (.planDone (s.pwk.lineCounter - 1)) ∧
      s.planDone.pwk = s.pwk.toIdle ∧ s.planDone.emt = emtEnded s.emt ∧
      s.planDone.rgu = { s.rgu with openShots := [], record := none } ∧ s.planDone.pta = ⟨none, none, none, none⟩ ∧
      s.planDone.slc = x.leave now ∧ s.planDone.pru = ⟨.replicate 15 none, none⟩ ∧ s.planDone.anu = s.anu ∧
      s.planDone.phc = s.phc ∧ s.planDone.cst = s.cst := by
  rw [planDone_eq hfree hemit, ← hx, ← hnow]
  refine ⟨?_, ?_, ?_, ?_, ?_, ?_, ?_, ?_, ?_, ?_, ?_⟩ <;> simp [State.leaveLine, State.emptyTable, Pru.reset]

end

/-- Settles O42. -/
theorem joinWindowEnds : Obligations.JoinWindowEnds := by
  intro s e hp hmember htimer hle hfree live slewing'
  have hlives := joinExpiry_lives hmember htimer hle hfree
  refine ⟨fun hunarmed => exec_next hp (hlives.trans (if_neg (by simp [livened, hunarmed]))), fun harmed hstate hout => ?_⟩
  have htakes := hlives.trans (tellLive_takes (s := livened s) harmed hstate hout)
  refine ⟨fun g hrecord hmoves => ?_, fun target count g counter next loaded hrepeat hcounter hstep hrecord hmoves => ?_,
    fun hrecord hfree' hemit => ?_⟩
  · exact exec_next hp (htakes.trans (walk_one (takeSegment_moves
      (s := (livened s).withPwk { s.pwk with armed := false, deferred := none }) hrecord hmoves)))
  · exact exec_next hp (htakes.trans (walk_two (takeRecord_repeat
        (s := (livened s).withPwk { s.pwk with armed := false, deferred := none }) hrepeat hcounter hstep)
      (takeSegment_moves (s := (livened s).withPwk { s.pwk with
        armed := false, deferred := none, counters := s.pwk.counters.setIfInBounds s.pwk.recordIndex loaded }) hrecord hmoves)))
  · obtain ⟨hcmu, hrps, hpwk, hemt, hrgu, hpta, hslc, hpru, hanu, hphc, hcst⟩ := planDone_blocks
      (s := (livened s).withPwk { s.pwk with armed := false, deferred := none })
      (State.FreeReport.plusEvent (s := (s.withPru { s.pru with joinTimer := none }).withSlc
        (Slc.request s.time .beacon { s.slc with membership := .live })) _ hfree') hemit
      (x := Slc.request s.time .beacon { s.slc with membership := .live }) (now := s.time) rfl rfl
    have hends := htakes.trans (walk_one (takeRecord_end
      (s := (livened s).withPwk { s.pwk with armed := false, deferred := none }) hrecord))
    have hlive : (Slc.request s.time .beacon { s.slc with membership := .live }).membership ≠ .leaving := by
      rw [request_membership]
      nofun
    have hleave := leave_begins (now := s.time) hlive
    replace hemt := hemt.trans (congrArg (fun m => { emtEnded s.emt with emit := m }) hemit.symm)
    rw [← hslc] at hleave
    obtain ⟨hleaving, hpending, hhold, hquiet, hleave, hbeacon⟩ := hleave
    exact ⟨_, exec_next hp hends, hcmu, hrps, hpwk, hemt, hrgu, hpta, hleaving, hpending, hhold, hquiet, hleave, hbeacon, hpru,
      hanu, hphc, hcst⟩

end Sys2Proof.Proofs.Runs

/-! A photo in progress aborted (R90) and the walker's end of a run (R119), as STOP and DUPLICATE bring them. -/

namespace Sys2Proof.Proofs.Aborts

open Sys2Proof.Machine Sys2Proof.Proofs.Photos Sys2Proof.Proofs.Abandon Sys2Proof.Proofs.Runs

/-! ## The entries of an abort (R90) -/

section
variable {s : State} {k : Nat}

/-- PHC as an abort finds it, before the entries are made. -/
def abortPhc (s : State) : Phc :=
  { s.phc with
    sequence := .expose, exposure := s.abortRecord, ownQuiet := false, timer := none, requestW := 0, expected := []
    granted := [], owed := none, heldRequest := none }

/-- The lengths an abort records, in whole microseconds (log entry 20). -/
def abortLengths (s : State) (n : Nat) : Nat := if s.phc.sequence = .expose then s.phc.abortedLength s.time n else 0

theorem lower_peerLit (e : ExposureRecord) (n : Nat) :
    ((e.lower.cameras[n]?).map (·.peerLit)).getD false = (e.cameras[n]?.getD ⟨false, 0, false⟩).peerLit := by
  have hlower : e.lower.cameras[n]? = (e.cameras[n]?).map fun c => { c with trigger := false } := by
    simp [ExposureRecord.lower]
  rw [hlower]
  cases e.cameras[n]? <;> rfl

theorem recordedLength_eq (x : Phc) (n : Nat) :
    x.recordedLength n = (x.exposure.cameras[n]?.getD ⟨false, 0, false⟩).length := by
  unfold Phc.recordedLength
  cases x.exposure.cameras[n]? <;> rfl

theorem abortedEntries_expose (h : s.phc.sequence = .expose) (hstart : s.phc.exposure.startTime.isSome = true) :
    entriesFrom true (abortLengths s) k (camerasOf s.phc.effectiveMask) (abortPhc s) = s.abortedEntries k := by
  obtain ⟨t0, ht0⟩ := Option.isSome_iff_exists.1 hstart
  have hrecord : s.abortRecord = s.phc.exposure.lower := by simp only [State.abortRecord, h]
  rw [entriesFrom_zip, State.abortedEntries]
  refine List.map_congr_left fun ci _ => ?_
  simp only [abortLengths, h, if_true, Phc.entryFor, abortPhc, hrecord, lower_peerLit, Phc.abortedLength, recordedLength_eq]
  simp [ExposureRecord.lower, ht0, Phc.camera]

theorem abortedEntries_before (h : s.phc.sequence ≠ .expose) :
    entriesFrom true (abortLengths s) k (camerasOf s.phc.effectiveMask) (abortPhc s) = s.abortedEntries k := by
  have hdark : ∀ n : Nat, (((Vector.replicate 4 (⟨false, 0, false⟩ : CameraExposure))[n]?).map (·.peerLit)).getD false =
      false := fun n => by
    rw [Vector.getElem?_replicate]
    split <;> rfl
  have hrecord : s.abortRecord = ⟨some s.time, some (s.angle .head),
      if s.phc.sequence = .grantWait then s.phc.ungranted else [], .replicate 4 ⟨false, 0, false⟩⟩ := by
    unfold State.abortRecord
    split <;> simp_all
  rw [entriesFrom_zip, State.abortedEntries]
  refine List.map_congr_left fun ci _ => ?_
  simp only [abortLengths, h, if_false, Phc.entryFor, abortPhc, hrecord, hdark]
  rfl

/-- The aborted entries of a sequence that is not IDLE. -/
theorem abortedEntries_eq (h : s.phc.Abortable k) :
    entriesFrom true (abortLengths s) k (camerasOf s.phc.effectiveMask) (abortPhc s) = s.abortedEntries k := by
  obtain ⟨-, -, -, -, hexposing⟩ := h
  by_cases hexpose : s.phc.sequence = .expose
  · exact abortedEntries_expose hexpose (hexposing hexpose).2
  · exact abortedEntries_before hexpose

theorem abortRecord_low (s : State) : ∀ c ∈ s.abortRecord.cameras, c.trigger = false := by
  intro c hc
  unfold State.abortRecord at hc
  split at hc
  · obtain ⟨c', -, rfl⟩ := Vector.mem_map.1 hc
    rfl
  · rw [(Vector.mem_replicate.1 hc).2]
  · rw [(Vector.mem_replicate.1 hc).2]

/-- PHC once an abort has made its entries and drained them (R84, R90). -/
def abortedPhc (s : State) (k : Nat) : Phc :=
  { abortPhc s with
    sequence := .idle
    catalogue := newest (s.phc.catalogue ++ s.abortedEntries k)
    nextNumber := some (k + (s.abortedEntries k).length)
    outgoing := [] }

theorem abortedEntries_length (s : State) (k : Nat) :
    (s.abortedEntries k).length = (camerasOf s.phc.effectiveMask).length := by
  simp [State.abortedEntries]

/-- A sequence that is not IDLE is aborted, and its records enter at once (R90). -/
theorem photoAbort_busy {j : Nat} (h : s.phc.Abortable k) (hbusy : s.phc.sequence ≠ .idle) (hfree : s.FreeReport (j + 4)) :
    s.photoAbort = (s.withPhc (abortedPhc s k)).withRps (plusPhotos (s.abortedEntries k) s.rps) := by
  have hentries := abortedEntries_eq h
  obtain ⟨hout, hnumber, hleft, hfew, hexposing⟩ := h
  have hdraining : ¬s.phc.draining = true := by
    by_cases hexpose : s.phc.sequence = .expose
    · simp [Phc.draining, (hexposing hexpose).1]
    · simp [Phc.draining, hexpose]
  have hcameras := camerasOf_length s.phc.effectiveMask
  have hlength := abortedEntries_length s k
  have hmade := makeEntries_eq (aborted := true) (length := abortLengths s) (cameras := camerasOf s.phc.effectiveMask)
    (x := abortPhc s) hnumber (by omega) hfew
  rw [hentries] at hmade
  have hqueued := queuePhotos_free (ps := s.abortedEntries k) (k := j + 4 - (s.abortedEntries k).length)
    (s := s.withPhc { abortedPhc s k with sequence := .expose, outgoing := s.phc.outgoing }) hout
    (by rw [Nat.sub_add_cancel (by omega)]; exact hfree)
  have hphc : ((s.withPhc (Phc.makeEntries true (abortLengths s) (camerasOf s.phc.effectiveMask) (abortPhc s)).1)) =
      s.withPhc { abortedPhc s k with sequence := .expose, outgoing := s.phc.outgoing } := by
    rw [hmade, ← hlength]
    rfl
  have hends : s.photoAbort = ((s.withPhc (Phc.makeEntries true (abortLengths s) (camerasOf s.phc.effectiveMask)
      (abortPhc s)).1).queuePhotos (Phc.makeEntries true (abortLengths s) (camerasOf s.phc.effectiveMask)
      (abortPhc s)).2).idleIfDrained := (if_neg hbusy).trans (if_neg hdraining)
  rw [hends, hphc, hmade]
  exact (congrArg State.idleIfDrained hqueued).trans (if_pos rfl)

/-- An end of run aborts the photo in progress, if any (R90). -/
theorem photoAbort_ends {j : Nat} {made : List Photo} (h : s.phc.Abortable k) (hfree : s.FreeReport (j + 4))
    (hmade : made = if s.phc.sequence = .idle then [] else s.abortedEntries k) :
    ∃ y, s.phc.EndedBy k made y ∧ s.photoAbort = (s.withPhc y).withRps (plusPhotos made s.rps) := by
  by_cases hidle : s.phc.sequence = .idle
  · rw [if_pos hidle] at hmade
    subst hmade
    exact ⟨s.phc, by rw [Phc.EndedBy, if_pos hidle]; exact ⟨rfl, rfl⟩, if_pos hidle⟩
  · rw [if_neg hidle] at hmade
    subst hmade
    refine ⟨abortedPhc s k, ?_, photoAbort_busy h hidle hfree⟩
    rw [Phc.EndedBy, if_neg hidle]
    refine ⟨?_, abortRecord_low s⟩
    obtain ⟨hout, -⟩ := h
    rw [abortedPhc, abortPhc, ← hout]
    rfl

end

/-! ## The walker at the end of a run (R119) -/

section
variable {s : State}

/-- The records behind one another. -/
def plusAll (rs : List Record) (q : Rps) : Rps := rs.foldl (fun q r => q.plus r) q

theorem plusAll_queue (rs : List Record) (q : Rps) : (plusAll rs q).queue = q.queue ++ rs := by
  induction rs generalizing q with
  | nil => simp [plusAll]
  | cons r rest ih =>
    rw [plusAll, List.foldl_cons]
    refine (ih _).trans ?_
    simp [Rps.plus]

/-- EMT, RGU and PTA once the walker has ended its attempt at the end of a run. -/
def attemptEnded (s : State) : State := if s.attemptOpen then ended s else s

/-- The walker abandons an attempt open or ending, and enters IDLE (R119). -/
theorem walkerRunEnd_free {reason : AbandonReason} {abandoned : List Record} (hshots : s.rgu.openShots = [])
    (hserves : ∀ a, s.pwk.attempt = some a → Serves s.pta a) (hfree : s.FreeReport 1)
    (hnone : s.pwk.attempt = none → abandoned = [])
    (hsome : ∀ a, s.pwk.attempt = some a →
      abandoned = [.lineAbandoned a.line a.attempt a.headAzimuth reason (s.firedOf a)]) :
    s.walkerRunEnd reason = ((attemptEnded s).withPwk { s.pwk.toIdle with
      outgoing := if s.pwk.attempt = none then s.pwk.outgoing else none }).withRps (plusAll abandoned s.rps) := by
  cases hattempt : s.pwk.attempt with
  | none =>
    have hclosed : attemptEnded s = s := if_neg (by simp [State.attemptOpen, hattempt])
    have hstops : s.stopAttempt reason = s := by simp only [State.stopAttempt, hattempt]
    rw [State.walkerRunEnd, hstops, hclosed, hnone hattempt, if_pos rfl]
    rfl
  | some a =>
    rw [hsome a hattempt, if_neg nofun]
    by_cases hending : a.ending = true
    · have hclosed : attemptEnded s = s := if_neg (by simp [State.attemptOpen, hattempt, hending])
      have hstops : s.stopAttempt reason =
          s.placeRecord (.lineAbandoned a.line a.attempt a.headAzimuth reason (s.firedOf a)) := by
        simp only [State.stopAttempt, hattempt, hending, if_true]
      rw [State.walkerRunEnd, hstops, hclosed, State.placeRecord_free (k := 0) _ hfree]
      rfl
    · have hopen : a.ending = false := by simpa using hending
      have hclosed : attemptEnded s = ended s := if_pos (by simp [State.attemptOpen, hattempt, hopen])
      have hstops := State.stopAttempt_noShots reason a s hshots hattempt hopen
      rw [endNotices_ended hshots (hserves a hattempt), State.placeRecord_free (k := 0) (s := ended s) _ hfree] at hstops
      rw [State.walkerRunEnd, hstops, hclosed]
      rfl

end

/-! ## The run's end by DUPLICATE (R148, R198) -/

section
variable {s t : State} {reason : AbandonReason} {abandoned : List Record}

theorem stopRecord_none (h : s.StopRecord reason abandoned) (hattempt : s.pwk.attempt = none) : abandoned = [] := by
  simpa only [State.StopRecord, hattempt] using h

/-- The record an end of run leaves tells the count EMT keeps, before EMT's run end and after it (R37, R119). -/
theorem stopRecord_some {a : AttemptRecord} (h : s.StopRecord reason abandoned) (hattempt : s.pwk.attempt = some a)
    (hemt : t.emt = s.emt ∨ t.emt = emtEnded s.emt) :
    abandoned = [.lineAbandoned a.line a.attempt a.headAzimuth reason (t.firedOf a)] := by
  simp only [State.StopRecord, hattempt] at h
  obtain ⟨n, rfl, hending, hopen⟩ := h
  have hcount : t.firedOf a = n := by
    cases hends : a.ending with
    | true => simp [State.firedOf, hending hends]
    | false =>
      obtain ⟨hfired, ctx, hctx, rfl⟩ := hopen hends
      rcases hemt with hemt | hemt <;> simp [State.firedOf, hfired, hemt, Emt.closeCount, emtEnded, hctx]
  rw [hcount]

theorem attemptEnded_emt (s : State) : (attemptEnded s).emt =
    if s.attemptOpen then { s.emt with context := none, keptFired := none } else s.emt := by
  unfold attemptEnded
  split <;> rfl

/-- With nothing open at RGU and PTA, the end of an attempt touches EMT and the walker alone. -/
theorem attemptEnded_closed (hrecord : s.rgu.record = none) (hcontext : s.pta.context = none) :
    (attemptEnded s).rgu = s.rgu ∧ (attemptEnded s).pta = s.pta := by
  unfold attemptEnded
  split
  · refine ⟨?_, ?_⟩
    · show ({ s.rgu with record := none } : Rgu) = s.rgu
      rw [← hrecord]
    · show ptaAbandoned s.pta = s.pta
      simp [ptaAbandoned, hcontext]
  · exact ⟨rfl, rfl⟩

theorem abortedEntries_congr {k : Nat} (hphc : t.phc = s.phc) (htime : t.time = s.time) (hanu : t.anu = s.anu)
    (hcmu : t.cmu.settings = s.cmu.settings) : t.abortedEntries k = s.abortedEntries k := by
  have hangle : t.angle .head = s.angle .head := by simp only [State.angle, htime, hanu, hcmu]
  simp only [State.abortedEntries, hphc, htime, hangle]

end

section
variable {u v w : State} {reason : AbandonReason} {abandoned : List Record} {k : Nat} {made : List Photo}

/-- EMT once run and attempt have ended, in either order (R24, R27, R37). -/
def emtStopped (u : State) : Emt :=
  { emtEnded u.emt with keptFired := if u.attemptOpen then none else u.emt.context.map (·.fired) }

/-- The walker once the run has ended (R119). -/
def pwkStopped (x : Pwk) : Pwk := { x.toIdle with outgoing := if x.attempt = none then x.outgoing else none }

/-- The shot path has ended its part of the run of u, before the walker has. -/
structure ShotPathEnded (u w : State) : Prop where
  emt : w.emt = emtEnded u.emt
  pwk : w.pwk = u.pwk
  rgu : w.rgu = { u.rgu with openShots := [], record := none }
  pta : w.pta = ⟨none, none, none, none⟩

/-- Blocks that the walker's end of a run leaves alone. -/
structure SameElsewhere (w t : State) : Prop where
  cmu : t.cmu = w.cmu
  slc : t.slc = w.slc
  pru : t.pru = w.pru
  anu : t.anu = w.anu
  phc : t.phc = w.phc
  cst : t.cst = w.cst
  time : t.time = w.time

theorem attemptEnded_elsewhere (w : State) : SameElsewhere w (attemptEnded w) := by
  unfold attemptEnded
  split <;> exact ⟨rfl, rfl, rfl, rfl, rfl, rfl, rfl⟩

theorem stopShots_free (hpath : ShotPathEnded u w) (hfree : w.FreeReport 1) (h : u.StopRecord reason abandoned) :
    (w.walkerRunEnd reason).emt = emtStopped u ∧ (w.walkerRunEnd reason).pwk = pwkStopped u.pwk ∧
      (w.walkerRunEnd reason).rgu = w.rgu ∧ (w.walkerRunEnd reason).pta = w.pta ∧
      (w.walkerRunEnd reason).rps = plusAll abandoned w.rps ∧ SameElsewhere w (w.walkerRunEnd reason) := by
  obtain ⟨hemt, hpwk, hrgu, hpta⟩ := hpath
  have hopen : w.attemptOpen = u.attemptOpen := by simp only [State.attemptOpen, hpwk]
  have hserves : ∀ a, w.pwk.attempt = some a → Serves w.pta a := fun a _ q hq => by
    rw [hpta] at hq
    cases hq
  have hended := walkerRunEnd_free (s := w) (reason := reason) (abandoned := abandoned) (by rw [hrgu]) hserves hfree
    (fun hnone => stopRecord_none h (by rw [← hpwk]; exact hnone)) (fun a ha => stopRecord_some h (by rw [← hpwk]; exact ha) (.inr hemt))
  obtain ⟨hrguKept, hptaKept⟩ := attemptEnded_closed (s := w) (by rw [hrgu]) (by rw [hpta])
  have hemtEnded := attemptEnded_emt w
  obtain ⟨hcmu, hslc, hpru, hanu, hphc, hcst, htime⟩ := attemptEnded_elsewhere w
  rw [hended]
  refine ⟨hemtEnded.trans ?_, by rw [hpwk]; rfl, hrguKept, hptaKept, rfl, hcmu, hslc, hpru, hanu, hphc, hcst, htime⟩
  rw [hopen, hemt]
  cases hcase : u.attemptOpen <;> simp [emtStopped, hcase, emtEnded]

theorem shotPathRunEnd_path (u : State) : ShotPathEnded u u.deviceReady.shotPathRunEnd := by
  rw [shotPathRunEnd_eq]
  exact ⟨rfl, rfl, rfl, rfl⟩

/-- The run ends by DUPLICATE: the shot path, the photo in progress, the walker (R148; log entry 28). -/
theorem endByDuplicate_blocks (h : u.StopRecord .duplicate abandoned) (habort : u.phc.Abortable k) (hfree : u.FreeReport 5)
    (hmade : made = if u.phc.sequence = .idle then [] else u.abortedEntries k) :
    u.endByDuplicate.cmu = { u.cmu with device := .ready } ∧
      u.endByDuplicate.slc = (if u.emt.emit.isSome then u.slc.request u.time .beacon else u.slc) ∧
      u.endByDuplicate.pru = u.pru ∧ u.endByDuplicate.rps = plusAll abandoned (plusPhotos made u.rps) ∧
      u.endByDuplicate.emt = emtStopped u ∧ u.endByDuplicate.rgu = { u.rgu with openShots := [], record := none } ∧
      u.endByDuplicate.pta = ⟨none, none, none, none⟩ ∧ u.endByDuplicate.pwk = pwkStopped u.pwk ∧
      u.endByDuplicate.anu = u.anu ∧ u.phc.EndedBy k made u.endByDuplicate.phc ∧ u.endByDuplicate.cst = u.cst := by
  have hpath := shotPathRunEnd_path u
  have hshots := shotPathRunEnd_eq u.deviceReady
  have hcmu : u.deviceReady.shotPathRunEnd.cmu = { u.cmu with device := .ready } := by rw [hshots]; rfl
  have hslc : u.deviceReady.shotPathRunEnd.slc = (if u.emt.emit.isSome then u.slc.request u.time .beacon else u.slc) := by
    rw [hshots]; rfl
  have hpru : u.deviceReady.shotPathRunEnd.pru = u.pru := by rw [hshots]; rfl
  have hrps : u.deviceReady.shotPathRunEnd.rps = u.rps := by rw [hshots]; rfl
  have hanu : u.deviceReady.shotPathRunEnd.anu = u.anu := by rw [hshots]; rfl
  have hphc : u.deviceReady.shotPathRunEnd.phc = u.phc := by rw [hshots]; rfl
  have hcst : u.deviceReady.shotPathRunEnd.cst = u.cst := by rw [hshots]; rfl
  have htime : u.deviceReady.shotPathRunEnd.time = u.time := by rw [hshots]; rfl
  rw [State.endByDuplicate]
  generalize u.deviceReady.shotPathRunEnd = v at hpath hcmu hslc hpru hrps hanu hphc hcst htime ⊢
  have hvfree : v.FreeReport 5 := by
    rw [State.FreeReport, hrps, hcmu]
    exact hfree
  obtain ⟨y, hy, hphoto⟩ := photoAbort_ends (s := v) (j := 1) (made := made) (by rw [hphc]; exact habort) hvfree (by
    rw [hmade, abortedEntries_congr (t := v) (s := u) hphc htime hanu (by rw [hcmu]), hphc])
  have hmadeLength : made.length ≤ 4 := by
    rw [hmade]
    split
    · simp
    · rw [abortedEntries_length]
      exact camerasOf_length _
  have hwfree : ((v.withPhc y).withRps (plusPhotos made v.rps)).FreeReport 1 :=
    FreeReport.plusPhotos (s := v.withPhc y) (hvfree.mono (by omega))
  obtain ⟨hemtPath, hpwkPath, hrguPath, hptaPath⟩ := hpath
  obtain ⟨hemt, hpwk, hrgu, hpta, hrpsEnded, hcmu', hslc', hpru', hanu', hphc', hcst', -⟩ := stopShots_free (u := u)
    (w := (v.withPhc y).withRps (plusPhotos made v.rps)) ⟨hemtPath, hpwkPath, hrguPath, hptaPath⟩ hwfree h
  rw [hphoto]
  refine ⟨hcmu'.trans hcmu, hslc'.trans hslc, hpru'.trans hpru, hrpsEnded.trans ?_, hemt, hrgu.trans hrguPath,
    hpta.trans hptaPath, hpwk, hanu'.trans hanu, ?_, hcst'.trans hcst⟩
  · rw [← hrps]
    rfl
  · rw [hphc', ← hphc]
    exact hy

end

end Sys2Proof.Proofs.Aborts

/-! The end of a run by DUPLICATE (R140, R147, R148, R198). -/

namespace Sys2Proof.Proofs.Duplicates

open Sys2Proof.Machine Sys2Proof.Proofs.Photos Sys2Proof.Proofs.Abandon Sys2Proof.Proofs.Runs Sys2Proof.Proofs.Aborts
open Sys2Proof.Proofs.Peers

section
variable {s : State} {n : Nat}

/-- A station whose line is silent asks for nothing. -/
theorem request_duplicate {x : Slc} (now : Nat) (k : FrameKind) (h : x.membership = .duplicate) : x.request now k = x :=
  if_neg (by simp [h])

/-- The part as its run begins to end by DUPLICATE: the line silent, the table empty, the event raised (R148). -/
def silenced (kind : FrameKind) (spoken : Membership) (s : State) : State :=
  ((s.withSlc s.slc.becomeDuplicate).withPru Pru.reset).withRps
    (s.rps.plus (.event ⟨.duplicateStation s.slc.membership kind spoken, 1, s.time⟩))

theorem duplicate_eq (kind : FrameKind) (spoken : Membership) (hfree : s.FreeReport 6) :
    s.duplicate kind spoken = (silenced kind spoken s).endByDuplicate := by
  have hraised := State.raise_free (k := 5) (.duplicateStation s.slc.membership kind spoken)
    (s := (s.withSlc s.slc.becomeDuplicate).emptyTable) hfree
  rw [plusEvent_unmaskable (e := .duplicateStation s.slc.membership kind spoken) rfl] at hraised
  exact congrArg State.endByDuplicate hraised

/-- What a frame of the own number that loses the claim leaves (R147). -/
theorem takeValid_own {c : Contents} (hown : s.cmu.settings.station = some n) (hspoken : c.spoken ≠ .leaving)
    (hlost : ¬(s.slc.membership = .live ∧ c.spoken = .joining)) : s.takeValid n c = s.duplicate c.kind c.spoken := by
  have hloses : losesClaim s.slc.membership c.spoken = true := by
    rw [losesClaim, Bool.not_eq_true', Bool.and_eq_false_iff, beq_eq_false_iff_ne, beq_eq_false_iff_ne]
    exact not_and_or.1 hlost
  exact (if_pos hown).trans ((if_neg hspoken).trans (if_pos hloses))

theorem takeValid_own_claimed {c : Contents} (hown : s.cmu.settings.station = some n) (hlive : s.slc.membership = .live)
    (hjoining : c.spoken = .joining) : s.takeValid n c = s :=
  (if_pos hown).trans ((if_neg (by rw [hjoining]; nofun)).trans (if_neg (by simp [losesClaim, hlive, hjoining])))

theorem takeValid_own_leaving {c : Contents} (hown : s.cmu.settings.station = some n) (hspoken : c.spoken = .leaving) :
    s.takeValid n c = s := (if_pos hown).trans (if_pos hspoken)

theorem parsePayload_beacon {grants : List Nat} (a : Byte) {m : Membership} (firing hold : Bool)
    (hm : beaconMembershipOf a.toNat = some m) (hrange : ∀ g ∈ grants, 1 ≤ g ∧ g ≤ 15) (hdistinct : grants.Nodup)
    (hfew : grants.length ≤ 14) :
    parsePayload .beacon ([a, (if firing then 1 else 0) + (if hold then 2 else 0), BitVec.ofNat 8 grants.length] ++
      grants.map (BitVec.ofNat 8)) = some (.beacon m firing hold grants) :=
  parseBeacon_composed firing hold hm hrange hdistinct hfew

/-- The contents of a frame of the own number that ends the run, as the payload that carries them is read (R136, R147). -/
theorem parsed_claim {kind : FrameKind} {spoken : Membership} {payload : List Byte}
    (h : kind = .hold ∧ spoken = .live ∧ (payload = [0] ∨ payload = [1]) ∨
      kind = .quiet ∧ spoken = .live ∧ payload.length = 2 ∨
      kind = .beacon ∧ ∃ (firing hold : Bool) (grants : List Nat), (∀ g ∈ grants, 1 ≤ g ∧ g ≤ 15) ∧ grants.Nodup ∧ grants.length ≤ 14 ∧
        (spoken = .live ∧ payload = [2, (if firing then 1 else 0) + (if hold then 2 else 0),
            BitVec.ofNat 8 grants.length] ++ grants.map (BitVec.ofNat 8) ∨
          spoken = .joining ∧ s.slc.membership = .joining ∧ payload = [1, (if firing then 1 else 0) +
            (if hold then 2 else 0), BitVec.ofNat 8 grants.length] ++ grants.map (BitVec.ofNat 8))) :
    ∃ c, parsePayload kind payload = some c ∧ c.kind = kind ∧ c.spoken = spoken ∧ payload.length ≤ 17 ∧
      spoken ≠ .leaving ∧ ¬(s.slc.membership = .live ∧ spoken = .joining) := by
  rcases h with ⟨rfl, rfl, rfl | rfl⟩ | ⟨rfl, rfl, hlength⟩ | ⟨rfl, firing, hold, grants, hrange, hdistinct, hfew, hbeacon⟩
  · exact ⟨.hold false, rfl, rfl, rfl, by simp, nofun, by simp⟩
  · exact ⟨.hold true, rfl, rfl, rfl, by simp, nofun, by simp⟩
  · exact ⟨_, parseQuiet hlength, rfl, rfl, by omega, nofun, by simp⟩
  · rcases hbeacon with ⟨rfl, rfl⟩ | ⟨rfl, hjoining, rfl⟩
    · exact ⟨_, parsePayload_beacon 2 firing hold rfl hrange hdistinct hfew, rfl, rfl, by simp; omega, nofun, by simp⟩
    · exact ⟨_, parsePayload_beacon 1 firing hold rfl hrange hdistinct hfew, rfl, rfl, by simp; omega, nofun,
        by simp [hjoining]⟩

end

/-- Settles O43. -/
theorem duplicateEndsRun : Obligations.DuplicateEndsRun := by
  intro s n hp hlisten hhunt hgap hlow hhigh hown frame beacon
  refine ⟨fun kind spoken payload k made abandoned hclaim hfree habort hmade hrecord => ?_,
    fun firing hold grants hrange hdistinct hfew => ?_⟩
  · obtain ⟨c, hparsed, hkind, hspoken, hlength, hstays, hlost⟩ := parsed_claim (s := s) hclaim
    have htaken : exec (frame kind payload) s = .next (s.takeValid n c) := by
      cases kind
      · exact siteFrame_valid s n 1 payload .beacon c hp hlisten hhunt hgap hlow hhigh hlength rfl hparsed
      · exact siteFrame_valid s n 2 payload .quiet c hp hlisten hhunt hgap hlow hhigh hlength rfl hparsed
      · exact siteFrame_valid s n 3 payload .hold c hp hlisten hhunt hgap hlow hhigh hlength rfl hparsed
    subst hkind hspoken
    rw [takeValid_own hown hstays hlost, duplicate_eq c.kind c.spoken hfree] at htaken
    obtain ⟨hcmu, hslc, hpru, hrps, hemt, hrgu, hpta, hpwk, hanu, hphc, hcst⟩ := endByDuplicate_blocks
      (u := silenced c.kind c.spoken s) (abandoned := abandoned) (k := k) (made := made) hrecord habort
      (State.FreeReport.plus (k := 5) (s := (s.withSlc s.slc.becomeDuplicate).withPru Pru.reset) _ hfree) hmade
    have hsilent : (silenced c.kind c.spoken s).endByDuplicate.slc = s.slc.becomeDuplicate := by
      rw [hslc, request_duplicate _ _ rfl, ite_self]
      rfl
    refine ⟨_, htaken, ?_⟩
    generalize (silenced c.kind c.spoken s).endByDuplicate = t at *
    have hqueue : t.rps.queue = s.rps.queue ++ [.event ⟨.duplicateStation s.slc.membership c.kind c.spoken, 1, s.time⟩] ++
        made.map .photo ++ abandoned := by
      rw [hrps, plusAll_queue, plusPhotos_queue]
      rfl
    rw [hsilent, hpru, hemt, hrgu, hpta, hpwk]
    exact ⟨rfl, rfl, rfl, rfl, rfl, rfl, rfl, rfl, rfl, hcmu, hqueue, rfl, rfl, rfl, rfl, rfl, rfl, rfl, rfl, rfl, rfl, rfl,
      rfl, rfl, hanu, hphc, hcst⟩
  · refine ⟨fun hlive => ?_, ?_⟩
    · have hparsed := parsePayload_beacon 1 firing hold rfl hrange hdistinct hfew
      exact (siteFrame_valid s n 1 _ .beacon _ hp hlisten hhunt hgap hlow hhigh (by simp; omega) rfl hparsed).trans
        (congrArg _ (takeValid_own_claimed hown hlive rfl))
    · have hparsed := parsePayload_beacon 3 firing hold rfl hrange hdistinct hfew
      exact (siteFrame_valid s n 1 _ .beacon _ hp hlisten hhunt hgap hlow hhigh (by simp; omega) rfl hparsed).trans
        (congrArg _ (takeValid_own_leaving hown rfl))

end Sys2Proof.Proofs.Duplicates

/-! The end of a run by STOP (R24, R33, R46, R64, R90, R119, R133, R149, R197). -/

namespace Sys2Proof.Proofs.Stops

open Sys2Proof.Machine Sys2Proof.Proofs.Effects Sys2Proof.Proofs.Photos Sys2Proof.Proofs.Abandon Sys2Proof.Proofs.Runs
open Sys2Proof.Proofs.Aborts Sys2Proof.Proofs.SiteLine Sys2Proof.Proofs.Resets

/-! ## The line -/

section
variable {x : Slc} {now v : Nat}

/-- SLC once a leave has begun from IDLE with nothing pending (R128, R133). -/
def left (now v : Nat) (x : Slc) : Slc :=
  { x with
    membership := .leaving, pendingBeacon := true, pendingHold := false, pendingQuiet := false, beaconTimer := none
    leaveTimer := some (now + 5000000), rejoin := false, assembler := .hunt false, byteGap := none, tx := .wait
    generator := some (lcg v), backoff := v * 32 / 65536
    access := if x.carrierSense then none else some (now + (6400 + 1600 * (v * 32 / 65536)))
    jam := if x.carrierSense then some (now + 20000000) else none }

theorem enterWait_some (h : x.generator = some v) : x.enterWait now = { x with
    tx := .wait, generator := some (lcg v), backoff := v * 32 / 65536
    access := if x.carrierSense then none else some (now + (6400 + 1600 * (v * 32 / 65536)))
    jam := if x.carrierSense then some (now + 20000000) else none } := by
  simp only [Slc.enterWait, draw_some h, accessTicks_eq]
  rfl

/-- The first beacon to be pending in IDLE brings WAIT (R128). -/
theorem join_idle (hidle : x.tx = .idle) (hbeacon : x.pendingBeacon = false) (h : x.generator = some v) :
    x.join now .beacon = { x with
      pendingBeacon := true, tx := .wait, generator := some (lcg v), backoff := v * 32 / 65536
      access := if x.carrierSense then none else some (now + (6400 + 1600 * (v * 32 / 65536)))
      jam := if x.carrierSense then some (now + 20000000) else none } :=
  (if_neg (by simp [Slc.isPending, hbeacon])).trans ((if_pos hidle).trans
    (enterWait_some (x := { x with pendingBeacon := true }) h))

/-- A leave finds the beacon that EMIT's fall asked for pending already, or puts its own there: SLC ends alike (R132, R133). -/
theorem leave_after_emit {c : Prop} [Decidable c] (hmember : x.membership = .joining ∨ x.membership = .live)
    (hidle : x.tx = .idle) (hbeacon : x.pendingBeacon = false) (h : x.generator = some v) :
    (if c then x.request now .beacon else x).leave now = left now v x := by
  have hstays : x.membership ≠ .leaving := by rcases hmember with h | h <;> simp [h]
  by_cases hc : c
  · have hrequest : x.request now .beacon = x.join now .beacon := if_pos hmember
    rw [if_pos hc, hrequest, join_idle hidle hbeacon h]
    exact (if_neg hstays).trans (if_pos rfl)
  · rw [if_neg hc]
    exact (if_neg hstays).trans (join_idle (x := { x with
      membership := .leaving, pendingHold := false, pendingQuiet := false, beaconTimer := none
      leaveTimer := some (now + 5000000), rejoin := false, assembler := .hunt false, byteGap := none }) hidle hbeacon h)

/-- An earlier leave goes on, and no START waits for it any more (R134). -/
theorem leave_leaving {c : Prop} [Decidable c] (h : x.membership = .leaving) :
    (if c then x.request now .beacon else x).leave now = { x with rejoin := false } := by
  have hdropped : x.request now .beacon = x := if_neg (by simp [h])
  rw [hdropped, ite_self]
  exact if_pos h

end

/-! ## The shot path and the walker -/

section
variable {u v : State} {abandoned : List Record}

/-- The shot path and the walker have ended their parts of the run of u (R64, R119). -/
structure ShotsStopped (u : State) (abandoned : List Record) (v : State) : Prop where
  cmu : v.cmu = u.cmu
  slc : v.slc = if u.emt.emit.isSome then u.slc.request u.time .beacon else u.slc
  pru : v.pru = u.pru
  rps : v.rps = plusAll abandoned u.rps
  emt : v.emt = emtStopped u
  rgu : v.rgu = { u.rgu with openShots := [], record := none }
  pta : v.pta = ⟨none, none, none, none⟩
  pwk : v.pwk = pwkStopped u.pwk
  anu : v.anu = u.anu
  phc : v.phc = u.phc
  cst : v.cst = u.cst
  time : v.time = u.time

/-- The end notice behind RGU's end of run (R64). -/
theorem shotsStopped_path_first (hfree : u.FreeReport 1) (h : u.StopRecord .stop abandoned) :
    ShotsStopped u abandoned (u.shotPathRunEnd.walkerRunEnd .stop) := by
  have hpath : ShotPathEnded u u.shotPathRunEnd := by
    rw [shotPathRunEnd_eq]
    exact ⟨rfl, rfl, rfl, rfl⟩
  have hwfree : u.shotPathRunEnd.FreeReport 1 := by
    rw [shotPathRunEnd_eq]
    exact hfree
  obtain ⟨hemt, hpwk, hrgu, hpta, hrps, hcmu, hslc, hpru, hanu, hphc, hcst, htime⟩ := stopShots_free hpath hwfree h
  have hend := shotPathRunEnd_eq u
  exact ⟨hcmu.trans (by rw [hend]; rfl), hslc.trans (by rw [hend]; rfl), hpru.trans (by rw [hend]; rfl),
    hrps.trans (by rw [hend]; rfl), hemt, hrgu.trans hpath.rgu, hpta.trans hpath.pta, hpwk, hanu.trans (by rw [hend]; rfl),
    hphc.trans (by rw [hend]; rfl), hcst.trans (by rw [hend]; rfl), htime.trans (by rw [hend]; rfl)⟩

/-- The end notice at RGU with no shot open: PTA's part is ended at most (R44, R62). -/
theorem rguEnd_noShots (line attempt : Nat) (hshots : u.rgu.openShots = []) :
    ∃ y, u.rguEnd .abandoned line attempt = (u.withRgu { u.rgu with openShots := [], record := none }).withPta y := by
  have hpta : ∀ w : State, ∃ y, w.ptaEnd .abandoned line attempt = w.withPta y := fun w => by
    unfold State.ptaEnd
    split
    · exact ⟨w.pta, rfl⟩
    · split
      · exact ⟨_, rfl⟩
      · exact ⟨w.pta, rfl⟩
  obtain ⟨y, hy⟩ := hpta (u.withRgu { u.rgu with openShots := [] })
  refine ⟨y, ?_⟩
  simp only [State.rguEnd, hshots, State.closeAllMissing, hy]
  rfl

/-- An open attempt abandoned with no shot open, before RGU's end of run (R119). -/
theorem walkerRunEnd_open {a : AttemptRecord} (hattempt : u.pwk.attempt = some a) (hending : a.ending = false)
    (hshots : u.rgu.openShots = []) (hfree : u.FreeReport 1) :
    ∃ y, u.walkerRunEnd .stop = ((((u.withEmt { u.emt with context := none, keptFired := none }).withRgu
      { u.rgu with openShots := [], record := none }).withPta y).withPwk { u.pwk.toIdle with outgoing := none }).withRps
        (u.rps.plus (.lineAbandoned a.line a.attempt a.headAzimuth .stop (u.firedOf a))) := by
  obtain ⟨y, hy⟩ := rguEnd_noShots (u := u.closeNotice) a.line a.attempt hshots
  have hstops := State.stopAttempt_noShots .stop a u hshots hattempt hending
  have hplaces : ∀ (w : State) (r : Record), w.FreeReport 1 → (w.placeRecord r).withPwk (w.placeRecord r).pwk.toIdle =
      (w.withPwk { w.pwk.toIdle with outgoing := none }).withRps (w.rps.plus r) := fun w r hw => by
    rw [State.placeRecord_free (k := 0) r hw]
    rfl
  refine ⟨y, ?_⟩
  rw [State.walkerRunEnd, hstops, hplaces _ _ (by rw [State.endNotices, hy]; exact hfree), State.endNotices, hy]
  rfl

/-- The end notice before RGU's end of run (R64). -/
theorem shotsStopped_walker_first (hopen : u.attemptOpen = true) (hshots : u.rgu.openShots = []) (hfree : u.FreeReport 1)
    (h : u.StopRecord .stop abandoned) : ShotsStopped u abandoned (u.walkerRunEnd .stop).shotPathRunEnd := by
  obtain ⟨a, hattempt, hending⟩ : ∃ a, u.pwk.attempt = some a ∧ a.ending = false := by
    simpa [State.attemptOpen, Option.any_eq_true] using hopen
  obtain ⟨y, hy⟩ := walkerRunEnd_open hattempt hending hshots hfree
  have hrecord := stopRecord_some (t := u) h hattempt (.inl rfl)
  have hemt : (u.walkerRunEnd .stop).emt = { u.emt with context := none, keptFired := none } := by rw [hy]; rfl
  have hrgu : (u.walkerRunEnd .stop).rgu = { u.rgu with openShots := [], record := none } := by rw [hy]; rfl
  have hpwk : (u.walkerRunEnd .stop).pwk = { u.pwk.toIdle with outgoing := none } := by rw [hy]; rfl
  have hrps : (u.walkerRunEnd .stop).rps = plusAll abandoned u.rps := by rw [hy, hrecord]; rfl
  have hslc : (u.walkerRunEnd .stop).slc = u.slc := by rw [hy]; rfl
  have htime : (u.walkerRunEnd .stop).time = u.time := by rw [hy]; rfl
  have hothers : (u.walkerRunEnd .stop).cmu = u.cmu ∧ (u.walkerRunEnd .stop).pru = u.pru ∧
      (u.walkerRunEnd .stop).anu = u.anu ∧ (u.walkerRunEnd .stop).phc = u.phc ∧ (u.walkerRunEnd .stop).cst = u.cst := by
    rw [hy]
    exact ⟨rfl, rfl, rfl, rfl, rfl⟩
  obtain ⟨hcmu, hpru, hanu, hphc, hcst⟩ := hothers
  rw [shotPathRunEnd_eq]
  generalize u.walkerRunEnd .stop = w at hemt hrgu hpwk hrps hslc htime hcmu hpru hanu hphc hcst ⊢
  refine ⟨hcmu, ?_, hpru, hrps, ?_, ?_, rfl, hpwk.trans ?_, hanu, hphc, hcst, htime⟩
  · rw [← hslc, ← htime]
    exact congrArg (fun m => if m.isSome then w.slc.request w.time .beacon else w.slc) (congrArg Emt.emit hemt)
  · show emtEnded w.emt = _
    rw [hemt, emtStopped, if_pos hopen]
    rfl
  · show ({ w.rgu with openShots := [], record := none } : Rgu) = _
    rw [hrgu]
  · rw [pwkStopped, hattempt, if_neg nofun]

/-- Either order of the end notice and of the end of run ends the shot path and the walker alike (log entry 5). -/
theorem stopShots_stopped (hshots : u.rgu.openShots = []) (hfree : u.FreeReport 1) (h : u.StopRecord .stop abandoned) :
    ShotsStopped u abandoned u.stopShots := by
  unfold State.stopShots
  split
  · rename_i hopen
    split
    · obtain ⟨hcmu, hslc, hpru, hrps, hemt, hrgu, hpta, hpwk, hanu, hphc, hcst, htime⟩ :=
        shotsStopped_walker_first (u := u.drawn) hopen hshots hfree h
      exact ⟨hcmu, hslc, hpru, hrps, hemt, hrgu, hpta, hpwk, hanu, hphc, hcst, htime⟩
    · obtain ⟨hcmu, hslc, hpru, hrps, hemt, hrgu, hpta, hpwk, hanu, hphc, hcst, htime⟩ :=
        shotsStopped_path_first (u := u.drawn) hfree h
      exact ⟨hcmu, hslc, hpru, hrps, hemt, hrgu, hpta, hpwk, hanu, hphc, hcst, htime⟩
  · exact shotsStopped_path_first hfree h

end

/-! ## The run's end by STOP (R197) -/

section
variable {u : State} {k : Nat} {made : List Photo} {abandoned : List Record}

theorem abandoned_length {reason : AbandonReason} (h : u.StopRecord reason abandoned) : abandoned.length ≤ 1 := by
  unfold State.StopRecord at h
  split at h
  · simp [h]
  · obtain ⟨n, rfl, -⟩ := h
    exact le_rfl

theorem plusAll_free {j : Nat} (rs : List Record) (hfree : u.FreeReport (j + rs.length)) :
    (u.withRps (plusAll rs u.rps)).FreeReport j := by
  induction rs generalizing u with
  | nil => exact hfree
  | cons r rest ih => exact ih (u := u.withRps (u.rps.plus r)) (State.FreeReport.plus (k := j + rest.length) _ hfree)

/-- The run ends by STOP at every block (R197). -/
theorem endByStop_blocks (hshots : u.rgu.openShots = []) (habort : u.phc.Abortable k)
    (hmade : made = if u.phc.sequence = .idle then [] else u.abortedEntries k) (h : u.StopRecord .stop abandoned)
    (hfree : u.FreeReport 6) :
    u.endByStop.cmu = { u.cmu with device := .ready } ∧
      u.endByStop.slc = (if u.emt.emit.isSome then u.slc.request u.time .beacon else u.slc).leave u.time ∧
      u.endByStop.pru = Pru.reset ∧ u.endByStop.rps = plusPhotos made (plusAll abandoned u.rps) ∧
      u.endByStop.emt = emtStopped u ∧ u.endByStop.rgu = { u.rgu with openShots := [], record := none } ∧
      u.endByStop.pta = ⟨none, none, none, none⟩ ∧ u.endByStop.pwk = pwkStopped u.pwk ∧ u.endByStop.anu = u.anu ∧
      u.phc.EndedBy k made u.endByStop.phc ∧ u.endByStop.cst = u.cst := by
  obtain ⟨hcmu, hslc, -, hrps, hemt, hrgu, hpta, hpwk, hanu, hphc, hcst, htime⟩ :=
    stopShots_stopped (u := u.deviceReady) hshots (hfree.mono (by omega)) h
  have hlength := abandoned_length h
  have hvfree : (u.withRps (plusAll abandoned u.rps)).FreeReport (1 + 4) :=
    plusAll_free abandoned (hfree.mono (by omega))
  rw [State.endByStop]
  generalize u.deviceReady.stopShots = v at hcmu hslc hrps hemt hrgu hpta hpwk hanu hphc hcst htime ⊢
  have hfree' : v.FreeReport (1 + 4) := by
    rw [State.FreeReport, hrps, hcmu]
    exact hvfree
  obtain ⟨y, hy, hphoto⟩ := photoAbort_ends (s := v) (j := 1) (made := made) (by rw [hphc]; exact habort) hfree' (by
    rw [hmade, abortedEntries_congr (t := v) (s := u) hphc htime hanu (by rw [hcmu]; rfl), hphc]
    rfl)
  rw [hphoto]
  refine ⟨hcmu, ?_, rfl, ?_, hemt, hrgu, hpta, hpwk, hanu, ?_, hcst⟩
  · show v.slc.leave v.time = _
    rw [hslc, htime]
    rfl
  · show plusPhotos made v.rps = _
    rw [hrps]
    rfl
  · show u.phc.EndedBy k made y
    rw [hphc] at hy
    exact hy

end

/-- Settles O51. -/
theorem runStops : Obligations.RunStops := by
  intro s k made abandoned htakes hrunning hmember hshots habort hmade hrecord hfree
  obtain ⟨hcmu, hslc, hpru, hrps, hemt, hrgu, hpta, hpwk, hanu, hphc, hcst⟩ :=
    endByStop_blocks (u := s.frameEnded) hshots habort hmade hrecord hfree
  have hacts : effect .stop s = s.frameEnded.endByStop.sendReply (plainReply 9 .ok) :=
    (command_taken htakes rfl).trans (if_pos hrunning)
  have hlength := abandoned_length hrecord
  have hmadeLength : made.length ≤ 4 := by
    rw [hmade]
    split
    · simp
    · rw [abortedEntries_length]
      exact camerasOf_length _
  have hroom : s.frameEnded.endByStop.FreeReport 1 := by
    have hrecords := plusAll_free (u := s) (j := 1 + made.length) abandoned (hfree.mono (by omega))
    have hphotos := FreeReport.plusPhotos hrecords
    rw [State.FreeReport, hrps, hcmu]
    exact hphotos
  rw [State.sendReply_free (k := 0) _ hroom] at hacts
  refine ⟨_, exec_next htakes.1 hacts, ?_⟩
  generalize s.frameEnded.endByStop = t at hcmu hslc hpru hrps hemt hrgu hpta hpwk hanu hphc hcst hroom ⊢
  refine ⟨?_, ?_, hemt, ?_, hpta, hpwk, fun hleaving => hslc.trans (leave_leaving hleaving),
    fun v hstays hidle hnone hgenerator => hslc.trans ?_, hpru, hanu, hphc, hcst⟩
  · show ({ t.cmu with ready := true, reply := none } : Cmu) = _
    rw [hcmu]
    rfl
  · show t.rps.queue ++ [_] = _
    rw [hrps, plusPhotos_queue, plusAll_queue]
    rfl
  · refine hrgu.trans ?_
    rw [← hshots]
    rfl
  · have hbeacon : s.slc.pendingBeacon = false := by
      simp only [Slc.anyPending, Bool.or_eq_false_iff] at hnone
      exact hnone.2
    exact leave_after_emit (hmember.imp_right fun h => h.resolve_right hstays) hidle hbeacon hgenerator

end Sys2Proof.Proofs.Stops

/-! The commands START, PAUSE and CONTINUE (R21, R48, R98, R114, R115, R118, R127, R134, R146, R196). -/

namespace Sys2Proof.Proofs.RunCommands

open Sys2Proof.Machine Sys2Proof.Proofs.Effects Sys2Proof.Proofs.Resets Sys2Proof.Proofs.Stops

/-! ## A command and its answer (R192, R193) -/

section
variable {s t : State} {i : Instr} {f : State → State} {r : Reply}

/-- A command taken by the lane does its effect and is answered. -/
theorem answered_of {k : Nat} (htakes : s.Takes i) (hfit : operandsFit i = true) (hlane : effect i = State.commandFrame i f)
    (hacts : f s.frameEnded = t.frameEnded.sendReply r) (hfree : t.FreeReport (k + 1)) :
    exec i s = .next (t.answered r) :=
  exec_next htakes.1 ((congrFun hlane s).trans ((command_taken htakes hfit).trans
    (hacts.trans (State.reply_answered r hfree))))

end

/-! ## START (R196) -/

section
variable {s : State}

/-- A run begins outside LEAVING (R196). -/
theorem beginRun_eq (index : Nat) (hstays : s.slc.membership ≠ .leaving) : s.beginRun index =
    (((((s.withCmu { s.cmu with device := .running }).withEmt (s.emt.start s.cmu.settings s.time)).withRgu
      (s.rgu.fixScale s.cmu.settings.ppm)).withPwk (s.pwk.arm index)).withSlc
        (s.slc.enterJoining s.time (s.cmu.settings.station.getD 0) s.time)).withPru
          { s.pru with joinTimer := some (s.time + 30000000) } := if_neg hstays

/-- SLC as membership becomes JOINING on a silent line (R127, R128, R134). -/
theorem enterJoining_idle {x : Slc} (now station start : Nat) (hidle : x.tx = .idle) (hnone : x.anyPending = false) :
    x.enterJoining now station start = { x with
      membership := .joining, counters := ⟨0, 0, 0, 0, 0⟩, jamReported := false, assembler := .hunt false, byteGap := none
      rejoin := false, pendingBeacon := true, tx := .wait, generator := some (lcg (lineSeed station start))
      backoff := lineSeed station start * 32 / 65536
      access := if x.carrierSense then none
        else some (now + (6400 + 1600 * (lineSeed station start * 32 / 65536)))
      jam := if x.carrierSense then some (now + 20000000) else none } := by
  obtain ⟨-, hbeacon⟩ := Bool.or_eq_false_iff.1 hnone
  exact join_idle (v := lineSeed station start) (x := { x with
    membership := .joining, counters := ⟨0, 0, 0, 0, 0⟩, jamReported := false
    generator := some (lineSeed station start), assembler := .hunt false, byteGap := none, rejoin := false }) hidle hbeacon rfl

/-- EMT as a run begins (R21). -/
theorem start_eq {x : Emt} {c : Settings} {n : Nat} (now : Nat) (hstation : c.station = some n) : x.start c now = { x with
    startTime := some now, generator := some (257 * n), tagCounter := 0, context := none
    schedule := some ⟨now + intervalOf c (257 * n), 0⟩, keptFired := none } := by
  rw [Emt.start, hstation]
  rfl

/-- The run that START begins, at every block (R196). -/
theorem beginRun_blocks {n : Nat} (index : Nat) (hstays : s.slc.membership ≠ .leaving) (hstation : s.cmu.settings.station = some n) :
    (s.beginRun index).cmu = { s.cmu with device := .running } ∧
      (s.beginRun index).emt = s.emt.start s.cmu.settings s.time ∧
      (s.beginRun index).rgu = s.rgu.fixScale s.cmu.settings.ppm ∧ (s.beginRun index).pwk = s.pwk.arm index ∧
      (s.beginRun index).slc = s.slc.enterJoining s.time n s.time ∧
      (s.beginRun index).pru = { s.pru with joinTimer := some (s.time + 30000000) } ∧
      (s.beginRun index).rps = s.rps ∧ (s.beginRun index).anu = s.anu ∧ (s.beginRun index).pta = s.pta ∧
      (s.beginRun index).phc = s.phc ∧ (s.beginRun index).cst = s.cst := by
  rw [beginRun_eq index hstays, hstation]
  exact ⟨rfl, rfl, rfl, rfl, rfl, rfl, rfl, rfl, rfl, rfl, rfl⟩

theorem startAct_begins {index : Byte} (hready : s.cmu.device = .ready) (hindex : index.toNat ≤ 63)
    (hvalid : s.pwk.validate s.cmu.settings.blindHalfWidth index.toNat = none) :
    startAct index s = (s.beginRun index.toNat).sendReply (s.beginRun index.toNat).startedReply := by
  simp only [startAct, hready, ne_eq, not_true, if_false, Nat.not_lt.2 hindex, hvalid]

/-- START's reply tells the START time and the membership at acceptance (R196, R215). -/
theorem startAct_answers {index : Byte} {n : Nat} {x : Slc} (hready : s.cmu.device = .ready) (hindex : index.toNat ≤ 63)
    (hvalid : s.pwk.validate s.cmu.settings.blindHalfWidth index.toNat = none) (hstays : s.slc.membership ≠ .leaving)
    (hstation : s.cmu.settings.station = some n) (hjoins : s.slc.enterJoining s.time n s.time = x)
    (hmember : x.membership = .joining) (hfree : s.FreeReport 1) :
    (startAct index s).cmu = { s.cmu with device := .running, ready := true, reply := none } ∧
      (startAct index s).emt = s.emt.start s.cmu.settings s.time ∧
      (startAct index s).rgu = s.rgu.fixScale s.cmu.settings.ppm ∧ (startAct index s).pwk = s.pwk.arm index.toNat ∧
      (startAct index s).slc = x ∧ (startAct index s).pru = { s.pru with joinTimer := some (s.time + 30000000) } ∧
      (startAct index s).rps = s.rps.plus (.reply ⟨8, .ok, 0, .started s.time .joining⟩) ∧ (startAct index s).anu = s.anu ∧
      (startAct index s).pta = s.pta ∧ (startAct index s).phc = s.phc ∧ (startAct index s).cst = s.cst := by
  obtain ⟨hcmu, hemt, hrgu, hpwk, hslc, hpru, hrps, hanu, hpta, hphc, hcst⟩ := beginRun_blocks index.toNat hstays hstation
  have hreply : (s.beginRun index.toNat).startedReply = ⟨8, .ok, 0, .started s.time .joining⟩ := by
    rw [State.startedReply, hslc, hjoins, hmember, hemt]
    rfl
  have hroom : (s.beginRun index.toNat).FreeReport 1 := by
    rw [State.FreeReport, hrps, hcmu]
    exact hfree
  rw [startAct_begins hready hindex hvalid, hreply, State.sendReply_free (k := 0) _ hroom]
  refine ⟨?_, hemt, hrgu, hpwk, hslc.trans hjoins, hpru, ?_, hanu, hpta, hphc, hcst⟩
  · show ({ (s.beginRun index.toNat).cmu with ready := true, reply := none } : Cmu) = _
    rw [hcmu]
  · show (s.beginRun index.toNat).rps.plus _ = _
    rw [hrps]

end

/-- Settles O50. -/
theorem runBegins : Obligations.RunBegins := by
  intro s index n htakes hready hindex hvalid hstays hidle hnone hstation hfree
  have hacts : effect (.start index) s = startAct index s.frameEnded := command_taken htakes rfl
  have hjoins := enterJoining_idle s.time n s.time hidle hnone
  obtain ⟨hcmu, hemt, hrgu, hpwk, hslc, hpru, hrps, hanu, hpta, hphc, hcst⟩ :=
    startAct_answers (s := s.frameEnded) hready hindex hvalid hstays hstation hjoins rfl hfree
  obtain ⟨hhold, hquiet⟩ : s.slc.pendingHold = false ∧ s.slc.pendingQuiet = false := by
    simp only [Slc.anyPending, Bool.or_eq_false_iff] at hnone
    exact hnone.1
  refine ⟨_, exec_next htakes.1 hacts, hcmu, hemt.trans (start_eq s.time hstation), hrgu, hpwk, ?_⟩
  rw [hslc]
  exact ⟨rfl, rfl, rfl, hhold, hquiet, rfl, rfl, ⟨lineSeed n s.time, rfl, rfl, rfl, fun hlow => if_neg (by simp [hlow])⟩, hpru,
    hrps, hanu, hpta, hphc, hcst⟩

/-! ## PAUSE and CONTINUE (R114, R115, R118) -/

section
variable {s : State}

theorem runDeferred_none (h : s.pwk.deferred = none) : s.runDeferred = s := by
  unfold State.runDeferred
  split
  · rw [h]
  · rfl

theorem ticksOfS_eq (n : Nat) : ticksOfS n = 100000000 * n := Nat.mul_comm n 100000000

theorem holdPassed_iff {hit : Nat} (h : s.pwk.ownHold = some hit) :
    s.holdPassed = true ↔ hit + 100000000 * s.cmu.settings.holdMinimum ≤ s.time := by
  rw [State.holdPassed, State.holdEnd, h, Option.map_some, Option.all_some, decide_eq_true_iff, ticksOfS_eq]

theorem announceHold_eq (s : State) : s.announceHold = s.withSlc
    (if s.cmu.settings.announceHolds then (s.slc.request s.time .hold).request s.time .beacon else s.slc) := by
  unfold State.announceHold
  split <;> rfl

/-- A halt ends (R118). -/
theorem endHalt_eq (h : s.pwk.deferred = none) : s.endHalt = (s.withPwk { s.pwk with
    state := if s.pwk.pausePending then .paused else .lineWait, pausePending := false, ownHold := none }).withSlc
    (if s.cmu.settings.announceHolds then (s.slc.request s.time .hold).request s.time .beacon else s.slc) := by
  rw [State.endHalt, announceHold_eq, runDeferred_none (by rw [Pwk.toLineWait_eq]; exact h), Pwk.toLineWait_eq]
  rfl

theorem endPause_eq (h : s.pwk.deferred = none) : s.endPause = s.withPwk { s.pwk with state := .lineWait } :=
  runDeferred_none h

theorem continueWalker_other (hpaused : s.pwk.state ≠ .paused) (hhalted : s.pwk.state ≠ .halted) :
    s.continueWalker = if s.pwk.pausePending then (.ok, s.withPwk { s.pwk with pausePending := false })
      else (.wrongState, s) := by
  unfold State.continueWalker
  split
  · exact absurd ‹_› hpaused
  · exact absurd ‹_› hhalted
  · rfl

theorem pause_other {x : Pwk} (hwait : x.state ≠ .lineWait) (hpaused : x.state ≠ .paused) :
    x.pause = { x with pausePending := true } := by
  unfold Pwk.pause
  split
  · exact absurd ‹_› hwait
  · exact absurd ‹_› hpaused
  · rfl

end

/-- Settles O52. -/
theorem pausesAndContinues : Obligations.PausesAndContinues := by
  intro s hrunning hfree
  refine ⟨fun htakes => ?_, fun htakes => ?_⟩
  · have hpauses : ∀ x, s.pwk.pause = x → exec .pause s = .next (State.answered ⟨10, .ok, 0, .nothing⟩ (s.withPwk x)) := by
      rintro x rfl
      exact answered_of (t := s.withPwk s.pwk.pause) (k := 0) htakes rfl rfl (if_pos hrunning) hfree
    refine ⟨fun hwait => hpauses _ ?_, fun hpaused => hpauses s.pwk ?_, fun hwait hpaused => hpauses _ (pause_other hwait hpaused)⟩
    · simp only [Pwk.pause, hwait]
    · simp only [Pwk.pause, hpaused]
  · have hcontinues : ∀ (o : ReplyOutcome) (t : State), s.frameEnded.continueWalker = (o, t.frameEnded) → t.FreeReport 1 →
        exec .continueRun s = .next (t.answered ⟨11, o, 0, .nothing⟩) := fun o t hwalker htfree =>
      answered_of (k := 0) htakes rfl rfl ((if_pos hrunning).trans (by rw [hwalker]; rfl)) htfree
    refine ⟨fun hpaused hnone => hcontinues _ _ ?_ hfree, fun hit hhalted hhold => ⟨fun hearly => ?_, fun hlate hnone => ?_⟩,
      fun hpaused hhalted => ⟨fun hpending => hcontinues _ _ ?_ hfree, fun hpending => hcontinues _ _ ?_ hfree⟩⟩
    · have hstate : s.frameEnded.pwk.state = .paused := hpaused
      simp only [State.continueWalker, hstate]
      exact congrArg (Prod.mk _) (endPause_eq (s := s.frameEnded) hnone)
    · have hstate : s.frameEnded.pwk.state = .halted := hhalted
      have hpassed : ¬s.frameEnded.holdPassed = true :=
        (holdPassed_iff (s := s.frameEnded) hhold).not.2 (Nat.not_le.2 hearly)
      refine hcontinues _ s ?_ hfree
      simp only [State.continueWalker, hstate]
      exact if_neg hpassed
    · have hstate : s.frameEnded.pwk.state = .halted := hhalted
      have hpassed : s.frameEnded.holdPassed = true := (holdPassed_iff (s := s.frameEnded) hhold).2 hlate
      refine hcontinues .ok ((s.withPwk _).withSlc _) ?_ hfree
      simp only [State.continueWalker, hstate]
      exact (if_pos hpassed).trans (congrArg (Prod.mk _) (endHalt_eq (s := s.frameEnded) hnone))
    · exact (continueWalker_other (s := s.frameEnded) hpaused hhalted).trans (if_pos hpending)
    · exact (continueWalker_other (s := s.frameEnded) hpaused hhalted).trans (if_neg (Bool.eq_false_iff.1 hpending))

end Sys2Proof.Proofs.RunCommands

/-! Commands refused (R193, R196, R197, R199, R201 to R203) and the walk that refuses a START (R97). -/

namespace Sys2Proof.Proofs.Refusals

open Sys2Proof.Machine Sys2Proof.Proofs.Effects Sys2Proof.Proofs.RunCommands

/-! ## The walk of plan validation (R97) -/

section
variable {x : Pwk} {b index : Nat} {path : List Nat}

/-- A segment that validation passes. -/
def SegmentValid (b : Nat) (g : Segment) : Prop := g.step ≠ 0 ∧ b < g.mFrom ∧ g.mFrom ≤ g.mTo ∧ g.mTo < 2 ^ 20 - b

/-- One step of the walk from index i to index j, after the indexes it has visited (R97). -/
inductive WalkStep (x : Pwk) (b : Nat) (before : List Nat) (i : Nat) : Nat → Prop
  | segment (g : Segment) (hrecord : x.record i = .segment g) (hvalid : SegmentValid b g) : WalkStep x b before i (i + 1)
  | photo (azimuth : Nat) (mask : CameraSet) (hrecord : x.record i = .photo azimuth mask) : WalkStep x b before i (i + 1)
  | again (target count : Nat) (hrecord : x.record i = .repeatFrom target count) (hbelow : target < i) (hcount : 0 < count)
      (hseen : i ∈ before) : WalkStep x b before i (i + 1)
  | jump (target count : Nat) (hrecord : x.record i = .repeatFrom target count) (hbelow : target < i) (hcount : 0 < count)
      (hnew : i ∉ before) : WalkStep x b before i target

/-- A REPEAT stands at an index. -/
def IsRepeat (x : Pwk) (i : Nat) : Prop := ∃ target count, x.record i = .repeatFrom target count

/-- Where the walk stands after k steps: what is left of validation, the REPEATs visited, and a bound on the steps, each of
which takes the walk one index on or one more REPEAT back. -/
structure WalkAt (x : Pwk) (b index : Nat) (path : List Nat) (k i : Nat) (visited : List Nat) : Prop where
  rest : x.validate b index = validateFrom x b (8192 - k) visited i
  distinct : visited.Nodup
  within : ∀ r ∈ visited, r < 64
  repeats : ∀ r, IsRepeat x r → (r ∈ visited ↔ r ∈ path.take k)
  below : i ≤ 64
  steps : k ≤ 65 * visited.length + i

theorem WalkAt.few {k i : Nat} {visited : List Nat} (h : WalkAt x b index path k i visited) : k ≤ 4224 := by
  have hlength : visited.length ≤ 64 := by
    have hsub := (h.distinct.subperm (l₂ := List.range 64) fun r hr => List.mem_range.2 (h.within r hr)).length_le
    simpa using hsub
  have hsteps := h.steps
  have hbelow := h.below
  omega

theorem segmentValid_iff (g : Segment) : SegmentValid b g ↔ ¬(g.step = 0 ∨ g.windowValid b = false) := by
  rw [SegmentValid, Segment.windowValid, not_or, Bool.not_eq_false, decide_eq_true_iff]
  rfl

theorem mem_take_succ {k i r : Nat} (hi : path[k]? = some i) : r ∈ path.take (k + 1) ↔ r ∈ path.take k ∨ r = i := by
  rw [List.take_add_one, hi]
  simp

/-- The index after a step that is no jump. -/
theorem WalkAt.next {k i n : Nat} {visited : List Nat} (h : WalkAt x b index path k i visited) (hi : path[k]? = some i)
    (hin : i ≤ 63) (hfuel : 8192 - k = n + 1) (hseen : IsRepeat x i → i ∈ path.take k)
    (hstep : validateFrom x b (n + 1) visited i = validateFrom x b n visited (i + 1)) :
    WalkAt x b index path (k + 1) (i + 1) visited := by
  have hleft : 8192 - (k + 1) = n := by omega
  have hsteps := h.steps
  refine ⟨?_, h.distinct, h.within, fun r hr => ?_, by omega, by omega⟩
  · rw [h.rest, hfuel, hstep, hleft]
  · rw [h.repeats r hr, mem_take_succ hi]
    exact ⟨.inl, fun hmem => hmem.elim id fun heq => heq ▸ hseen (heq ▸ hr)⟩

/-- A step of the walk is a step of validation. -/
theorem WalkAt.step {k i j : Nat} {visited : List Nat} (h : WalkAt x b index path k i visited) (hi : path[k]? = some i)
    (hin : i ≤ 63) (hstep : WalkStep x b (path.take k) i j) : ∃ visited', WalkAt x b index path (k + 1) j visited' := by
  have hfew := h.few
  obtain ⟨n, hfuel⟩ : ∃ n, 8192 - k = n + 1 := ⟨8191 - k, by omega⟩
  have hpast : ¬63 < i := by omega
  cases hstep with
  | segment g hrecord hvalid =>
    refine ⟨visited, h.next hi hin hfuel (fun ⟨t, c, hr⟩ => nomatch hrecord.symm.trans hr) ?_⟩
    simp only [validateFrom, if_neg hpast, hrecord, if_neg ((segmentValid_iff g).1 hvalid)]
  | photo azimuth mask hrecord =>
    refine ⟨visited, h.next hi hin hfuel (fun ⟨t, c, hr⟩ => nomatch hrecord.symm.trans hr) ?_⟩
    simp only [validateFrom, if_neg hpast, hrecord]
  | again target count hrecord hbelow hcount hseen =>
    have hmem : visited.contains i = true := List.contains_iff_mem.2 ((h.repeats i ⟨target, count, hrecord⟩).2 hseen)
    refine ⟨visited, h.next hi hin hfuel (fun _ => hseen) ?_⟩
    simp only [validateFrom, if_neg hpast, hrecord, if_neg (show ¬(i ≤ target ∨ count = 0) by omega), if_pos hmem]
  | jump _ count hrecord hbelow hcount hnew =>
    have hmem : i ∉ visited := mt (h.repeats i ⟨j, count, hrecord⟩).1 hnew
    have hsteps := h.steps
    refine ⟨i :: visited, ?_, List.nodup_cons.2 ⟨hmem, h.distinct⟩, ?_, fun r hr => ?_, by omega, by simp; omega⟩
    · have hleft : 8192 - (k + 1) = n := by omega
      rw [h.rest, hfuel, hleft]
      simp only [validateFrom, if_neg hpast, hrecord, if_neg (show ¬(i ≤ j ∨ count = 0) by omega)]
      exact if_neg (mt List.contains_iff_mem.1 hmem)
    · exact List.forall_mem_cons.2 ⟨by omega, h.within⟩
    · rw [List.mem_cons, mem_take_succ hi, h.repeats r hr]
      exact or_comm

/-- The walk along a whole path. -/
theorem walkAt_path (hindex : index ≤ 63) (hhead : path.head? = some index)
    (hwalk : ∀ k i j, path[k]? = some i → path[k + 1]? = some j → i ≤ 63 ∧ WalkStep x b (path.take k) i j) :
    ∀ k i, path[k]? = some i → ∃ visited, WalkAt x b index path k i visited := by
  intro k
  induction k with
  | zero =>
    intro i hi
    rw [← List.head?_eq_getElem?, hhead] at hi
    cases hi
    exact ⟨[], rfl, List.nodup_nil, by simp, by simp, by omega, by omega⟩
  | succ k ih =>
    intro j hj
    have hk : k < path.length := by
      have := (List.getElem?_eq_some_iff.1 hj).1
      omega
    have hi := List.getElem?_eq_getElem hk
    obtain ⟨visited, hat⟩ := ih _ hi
    obtain ⟨hin, hstep⟩ := hwalk k _ j hi hj
    exact hat.step hi hin hstep

/-- What is left of validation at the last index of a path, and that some of it is left. -/
theorem validate_last {last : Nat} (hindex : index ≤ 63) (hhead : path.head? = some index)
    (hlast : path.getLast? = some last)
    (hwalk : ∀ k i j, path[k]? = some i → path[k + 1]? = some j → i ≤ 63 ∧ WalkStep x b (path.take k) i j) :
    ∃ n visited, x.validate b index = validateFrom x b (n + 1) visited last := by
  rw [List.getLast?_eq_getElem?] at hlast
  obtain ⟨visited, hat⟩ := walkAt_path hindex hhead hwalk _ _ hlast
  have hfew := hat.few
  refine ⟨8191 - (path.length - 1), visited, hat.rest.trans ?_⟩
  congr 1
  omega

end

/-! ## Refusals -/

section
variable {s : State}

/-- A command that is refused is answered and changes nothing (R193). -/
theorem refused_of {i : Instr} {f : State → State} {r : Reply} (htakes : s.Takes i) (hfit : operandsFit i = true)
    (hlane : effect i = State.commandFrame i f) (hacts : f s.frameEnded = s.frameEnded.sendReply r)
    (hfree : s.FreeReport 1) : exec i s = .next (s.answered r) :=
  answered_of (k := 0) htakes hfit hlane hacts hfree

end

/-- Settles O54. -/
theorem commandsRefused : Obligations.CommandsRefused := by
  refine ⟨?_, fun s hfree => ?_⟩
  · intro x b index last path hindex hhead hlast segmentValid hpath
    obtain ⟨n, visited, hleft⟩ := validate_last (x := x) (b := b) hindex hhead hlast fun k i j hi hj => by
      obtain ⟨hin, hstep⟩ := hpath k i j hi hj
      refine ⟨hin, ?_⟩
      cases hrecord : x.record i with
      | segment g =>
        simp only [hrecord] at hstep
        obtain ⟨hvalid, rfl⟩ := hstep
        exact .segment g hrecord hvalid
      | photo azimuth mask =>
        simp only [hrecord] at hstep
        subst hstep
        exact .photo azimuth mask hrecord
      | repeatFrom target count =>
        simp only [hrecord] at hstep
        obtain ⟨hbelow, hcount, hj⟩ := hstep
        by_cases hseen : i ∈ path.take k
        · rw [if_pos hseen] at hj
          subst hj
          exact .again target count hrecord hbelow hcount hseen
        · rw [if_neg hseen] at hj
          subst hj
          exact .jump j count hrecord hbelow hcount hseen
      | planEnd => simp only [hrecord] at hstep
    refine ⟨fun hpast => ?_, fun hin => ?_⟩
    · rw [hleft, hpast]
      rfl
    · have hpast : ¬63 < last := by omega
      cases hrecord : x.record last with
      | segment g =>
        intro hfault
        have hfaulty := not_not.1 (mt (segmentValid_iff g).2 hfault)
        rw [hleft]
        simp only [validateFrom, if_neg hpast, hrecord, if_pos hfaulty]
      | photo azimuth mask => trivial
      | repeatFrom target count =>
        intro hfault
        rw [hleft]
        simp only [validateFrom, if_neg hpast, hrecord, if_pos hfault]
      | planEnd =>
        show x.validate b index = none
        rw [hleft]
        simp only [validateFrom, if_neg hpast, hrecord]
  · refine ⟨fun hrunning => ⟨fun code contents htakes hfit => ?_, fun row htakes => ?_, fun start records htakes hfit => ?_⟩,
      fun hready index htakes => ?_,
      fun hstopped => ⟨fun htakes => ?_, fun htakes => ?_, fun htakes => ?_, fun code contents hcode htakes => ?_,
        fun row htakes => ⟨fun hrow => ?_, fun hrow hwriting => ?_⟩⟩,
      fun code hcode htakes => ?_, fun row htakes => ⟨fun hrow => ?_, fun hrow hwrite => ?_⟩,
      fun start count htakes hrange => ?_, fun hready index htakes => ⟨fun hindex => ?_, fun i hindex hfault => ?_⟩⟩
    · exact refused_of htakes hfit rfl (if_pos hrunning) hfree
    · exact refused_of htakes rfl rfl (if_pos hrunning) hfree
    · exact refused_of htakes hfit rfl (if_pos hrunning) hfree
    · exact refused_of htakes rfl rfl (if_pos hready) hfree
    · exact refused_of htakes rfl rfl (if_neg hstopped) hfree
    · exact refused_of htakes rfl rfl (if_neg hstopped) hfree
    · exact refused_of htakes rfl rfl (if_neg hstopped) hfree
    · have hfit : operandsFit (.loadTable code contents) = true := by simp [operandsFit, hcode]
      exact refused_of htakes hfit rfl ((if_neg hstopped).trans (if_pos hcode)) hfree
    · exact refused_of htakes rfl rfl ((if_neg hstopped).trans (if_pos hrow)) hfree
    · have hstate : s.cst.rowState row.toNat = .writing := by
        rw [← hwriting]
        simp [Cst.rowState, hrow]
      exact refused_of htakes rfl rfl ((if_neg hstopped).trans ((if_neg (by omega)).trans (if_pos hstate))) hfree
    · exact refused_of htakes rfl rfl (if_pos hcode) hfree
    · exact refused_of htakes rfl rfl (if_pos hrow) hfree
    · exact refused_of htakes rfl rfl ((if_neg (by omega)).trans (if_pos hwrite)) hfree
    · exact refused_of htakes rfl rfl (if_pos hrange) hfree
    · exact refused_of htakes rfl rfl ((if_neg (not_not.2 hready)).trans (if_pos hindex)) hfree
    · refine refused_of htakes rfl rfl ((if_neg (not_not.2 hready)).trans ((if_neg (by omega)).trans ?_)) hfree
      have hfaulty : s.frameEnded.pwk.validate s.frameEnded.cmu.settings.blindHalfWidth index.toNat = some i := hfault
      rw [hfaulty]
      rfl

end Sys2Proof.Proofs.Refusals

/-! Command frames on the lane (R190, R191, R208, R209): a frame judged, clocked byte by byte, faulty or broken. -/

namespace Sys2Proof.Proofs.LaneFrames

open Sys2Proof.Machine Sys2Proof.Proofs.Effects Sys2Proof.Proofs.Layout Sys2Proof.Proofs.Resets
open Sys2Proof.Proofs.SiteFrames Sys2Proof.Proofs.RunCommands Sys2Proof.Proofs.ShotPath

/-! ## The parts of a frame (R208) -/

section
variable {code : Nat} {p : List Byte}

theorem frameCovered_length (code : Nat) (p : List Byte) : (frameCovered code p).length = 3 + p.length := by
  simp only [frameCovered, List.length_append, le_length]

theorem frameBytes_length (code : Nat) (p : List Byte) : (frameBytes code p).length = 5 + p.length := by
  simp only [frameBytes, checkBytes, List.length_append, le_length, frameCovered_length]
  omega

theorem frameBytes_code (h : code < 256) : field (frameBytes code p) 0 1 = code := by
  simp only [frameBytes, frameCovered, List.append_assoc, field_le_here]
  omega

theorem frameBytes_announces (h : p.length < 65536) : announcedLength (frameBytes code p) = p.length := by
  simp only [announcedLength, frameBytes, frameCovered, List.append_assoc, field_le_past, le_refl, Nat.sub_self, field_le_here]
  omega

theorem frameBytes_covered (h : p.length < 65536) : coveredPart (frameBytes code p) = frameCovered code p := by
  rw [coveredPart, frameBytes_announces h, frameBytes, ← frameCovered_length code p, List.take_left]

theorem frameBytes_check (h : p.length < 65536) :
    carriedCheck (frameBytes code p) = (crc16 (frameCovered code p)).toNat := by
  rw [carriedCheck, frameBytes_announces h, frameBytes, ← frameCovered_length code p, field_append_past _ _ le_rfl,
    Nat.sub_self, checkBytes, field_le_only]
  exact Nat.mod_eq_of_lt (BitVec.isLt _)

theorem frameBytes_payload : slice (frameBytes code p) 3 p.length = p := by
  have hheader : (le 1 code ++ le 2 p.length).length = 3 := by simp only [List.length_append, le_length]
  rw [frameBytes, frameCovered, List.append_assoc, slice_append_past _ _ hheader.le, hheader, Nat.sub_self,
    slice_append_within _ (by omega), slice_all rfl]

/-- The judgement of a frame whose check stands and whose code is known (R191). -/
theorem judgeFrame_known {levels : InputLevels} {i : Instr} (hlow : 1 ≤ code) (hhigh : code ≤ 15) (hlength : p.length < 65536)
    (hparsed : parsePayloadOf levels code p = some i) : judgeFrame levels (frameBytes code p) = .ok i := by
  have hknown : knownCode code = true := by simp [knownCode, hlow, hhigh]
  have hcode : field (frameBytes code p) 0 1 = code := frameBytes_code (by omega)
  rw [judgeFrame, if_neg (not_not.2 ((frameBytes_check hlength).trans (by rw [frameBytes_covered hlength]))), hcode, hknown,
    if_neg (by decide), frameBytes_announces hlength, frameBytes_payload, hparsed]

end

/-! ## The payload read back (R209) -/

section
variable {levels : InputLevels} {i : Instr}

theorem entry_length (e : SettingEntry) : e.bytes.length = 5 := by simp [SettingEntry.bytes, le_length]

theorem parseEntries_bytes (entries : List SettingEntry) :
    parseEntries entries.length (entries.flatMap SettingEntry.bytes) = entries := by
  induction entries with
  | nil => rfl
  | cons e rest ih =>
    have hvalue : BitVec.ofNat 32 (field (e.bytes ++ rest.flatMap SettingEntry.bytes) 1 4) = e.value := by
      have hfield : field (e.bytes ++ rest.flatMap SettingEntry.bytes) 1 4 = e.value.toNat := by
        rw [SettingEntry.bytes, List.append_assoc, List.singleton_append, field_cons_past _ _ _ le_rfl, Nat.sub_self,
          field_le_here]
        exact Nat.mod_eq_of_lt (BitVec.isLt _)
      rw [hfield, BitVec.ofNat_toNat, BitVec.setWidth_eq]
    rw [List.length_cons, List.flatMap_cons, parseEntries, hvalue, ← entry_length e, List.drop_left, ih]
    rfl

theorem splitRecords_flatten (records : List (List Byte)) (h : ∀ r ∈ records, r.length = 23) :
    splitRecords records.length records.flatten = records := by
  induction records with
  | nil => rfl
  | cons r rest ih =>
    obtain ⟨hr, hrest⟩ := List.forall_mem_cons.1 h
    rw [List.length_cons, List.flatten_cons, splitRecords, ← hr, List.take_left, List.drop_left, ih hrest]

theorem flatten_length (records : List (List Byte)) (h : ∀ r ∈ records, r.length = 23) :
    records.flatten.length = 23 * records.length := by
  rw [← List.flatMap_id', List.length_flatMap, List.map_congr_left h, List.map_const', List.sum_replicate, smul_eq_mul, mul_comm]

theorem entries_length (entries : List SettingEntry) :
    (entries.flatMap SettingEntry.bytes).length = 5 * entries.length := flatMap_length entry_length entries

/-- The command that a frame's bytes are judged to be: a RESET with the levels it finds. -/
def relevelled (levels : InputLevels) : Instr → Instr
  | .reset _ => .reset levels
  | i => i

theorem wellFormed_fits (hcode : 1 ≤ commandCode i) (h : i.wellFormed = true) : operandsFit i = true := by
  cases i with
  | configure entries => exact h
  | loadTable code contents => exact (Bool.and_eq_true_iff.1 h).1
  | planWrite start records => exact h
  | _ => rfl

theorem planWrite_fits {start : Byte} {records : List (List Byte)} (h : operandsFit (.planWrite start records) = true) :
    records.length ≤ 255 ∧ ∀ r ∈ records, r.length = 23 := by
  simpa [operandsFit] using h

theorem payload_length (hcode : 1 ≤ commandCode i) (h : i.wellFormed = true) : (commandPayload i).length < 65536 := by
  cases i with
  | configure entries =>
    have hfew : entries.length ≤ 255 := by simpa [operandsFit] using wellFormed_fits hcode h
    simp only [commandPayload, List.length_append, le_length, entries_length]
    omega
  | loadTable code contents =>
    have hshort : contents.length < 65535 := of_decide_eq_true (Bool.and_eq_true_iff.1 h).2
    simp only [commandPayload, List.length_append, List.length_singleton]
    omega
  | planWrite start records =>
    obtain ⟨hfew, hlengths⟩ := planWrite_fits (wellFormed_fits hcode h)
    simp only [commandPayload, List.length_append, List.length_singleton, le_length, flatten_length _ hlengths]
    omega
  | _ => simp [commandPayload]

/-- The payload of a well-formed command is read back (R209). -/
theorem parsePayload_command (hcode : 1 ≤ commandCode i) (h : i.wellFormed = true) :
    parsePayloadOf levels (commandCode i) (commandPayload i) = some (relevelled levels i) := by
  have hfits := wellFormed_fits hcode h
  cases i with
  | configure entries =>
    have hfew : entries.length ≤ 255 := by simpa [operandsFit] using hfits
    have hcount : field (le 1 entries.length ++ entries.flatMap SettingEntry.bytes) 0 1 = entries.length := by
      rw [field_le_here]
      omega
    have hlength : (le 1 entries.length ++ entries.flatMap SettingEntry.bytes).length = 1 + 5 * entries.length := by
      rw [List.length_append, le_length, entries_length]
    show parseConfigure (le 1 entries.length ++ entries.flatMap SettingEntry.bytes) = _
    rw [parseConfigure, hcount, hlength, if_pos ⟨by omega, rfl⟩]
    exact congrArg (fun es => some (Instr.configure es)) (parseEntries_bytes entries)
  | loadTable code contents =>
    have hfield : field ([code] ++ contents) 0 1 = code.toNat := field_cons_here code contents
    have hfits' : 7 < code.toNat ∨ contentsFit code.toNat contents = true := by simpa [operandsFit] using hfits
    show parseLoadTable ([code] ++ contents) = _
    rw [parseLoadTable, hfield]
    exact if_pos ⟨by simp, hfits'⟩
  | planWrite start records =>
    obtain ⟨hfew, hlengths⟩ := planWrite_fits hfits
    have hcount : field (start :: (le 1 records.length ++ records.flatten)) 1 1 = records.length := by
      rw [field_cons_past _ _ _ le_rfl, Nat.sub_self, field_le_here]
      omega
    have hlength : (start :: (le 1 records.length ++ records.flatten)).length = 2 + 23 * records.length := by
      rw [List.length_cons, List.length_append, le_length, flatten_length _ hlengths]
      omega
    show parsePlanWrite (start :: (le 1 records.length ++ records.flatten)) = _
    rw [parsePlanWrite, hcount, hlength, if_pos ⟨by omega, rfl⟩]
    exact congrArg (fun rs => some (Instr.planWrite start rs)) (splitRecords_flatten records hlengths)
  | readTable code => rfl
  | calStore row => rfl
  | calReload row => rfl
  | planRead start count => rfl
  | start index => rfl
  | stop => rfl
  | pause => rfl
  | continueRun => rfl
  | status => rfl
  | peers => rfl
  | photos => rfl
  | reset l => rfl
  | _ => exact absurd hcode (Nat.not_succ_le_zero 0)

theorem commandCode_le (i : Instr) : commandCode i ≤ 15 := by
  cases i <;> exact Nat.le_of_ble_eq_true rfl

/-- The judgement of a well-formed command's frame (R191). -/
theorem judgeFrame_command (hcode : 1 ≤ commandCode i) (h : i.wellFormed = true) :
    judgeFrame levels (encodeFrame i) = .ok (relevelled levels i) :=
  judgeFrame_known hcode (commandCode_le i) (payload_length hcode h) (parsePayload_command hcode h)

theorem relevelled_other (h : ∀ l, i ≠ .reset l) : relevelled levels i = i := by
  cases i with
  | reset l => exact absurd rfl (h l)
  | _ => rfl

theorem encodeFrame_length (hcode : 1 ≤ commandCode i) (h : i.wellFormed = true) :
    (encodeFrame i).length = 5 + announcedLength (encodeFrame i) := by
  rw [encodeFrame, frameBytes_announces (payload_length hcode h), frameBytes_length]

theorem encodeFrame_complete (hcode : 1 ≤ commandCode i) (h : i.wellFormed = true) : frameComplete (encodeFrame i) = true := by
  have hlength := encodeFrame_length hcode h
  simp only [frameComplete, decide_eq_true_eq]
  omega

end

/-- Settles O58. -/
theorem frameRoundTrip : Obligations.FrameRoundTrip := by
  intro levels i hwell hcode
  refine ⟨encodeFrame_complete hcode hwell, encodeFrame_length hcode hwell, fun hother => ?_, fun l hreset => ?_⟩
  · rw [judgeFrame_command hcode hwell, relevelled_other hother]
  · subst hreset
    exact judgeFrame_command hcode hwell

/-! ## A frame byte by byte (R190) -/

section
variable {s : State} {i : Instr}

/-- The lane in reception of a frame's first bytes. -/
def receiving (bs : List Byte) (s : State) : State :=
  s.withCmu { s.cmu with receiver := some bs, laneGap := some (s.time + 100000), ready := false }

theorem receiveBytes_more {bs : List Byte} (h : frameComplete bs = false) : s.receiveBytes bs = receiving bs s :=
  if_neg (by simp [h])

theorem laneByte_first {b : Byte} (hidle : s.cmu.receiver = none) (hready : s.cmu.ready = true) :
    effect (.laneByteReceived b) s = s.receiveBytes [b] := by
  show laneByteAct b s = _
  simp only [laneByteAct, hidle, hready, if_true]

theorem laneByte_next {b : Byte} {held : List Byte} (h : s.cmu.receiver = some held) :
    effect (.laneByteReceived b) s = s.receiveBytes (held ++ [b]) := by
  show laneByteAct b s = _
  simp only [laneByteAct, h]

theorem frameComplete_short {bs : List Byte} (h : bs.length < 5) : frameComplete bs = false := by
  simp only [frameComplete, decide_eq_false_iff_not]
  omega

/-- The first bytes of a frame do not complete it. -/
theorem frameComplete_prefix {held rest : List Byte} (hlength : (held ++ rest).length = 5 + announcedLength (held ++ rest))
    (hrest : rest ≠ []) : frameComplete held = false := by
  have hpos := List.length_pos_iff.2 hrest
  rw [List.length_append] at hlength
  simp only [frameComplete, decide_eq_false_iff_not, not_and, Nat.not_le]
  intro hheader
  have hannounced : announcedLength (held ++ rest) = announcedLength held :=
    congrArg unle (slice_append_within rest (by omega))
  omega

/-- A complete frame that is judged to be a command is carried out (R191, R193). -/
theorem runFrame_command {frame : List Byte} (h : ∀ levels, judgeFrame levels frame = .ok i) (hother : ∀ l, i ≠ .reset l) :
    s.runFrame frame = commandAct i s := by
  have hdrawn : s.drawnFor i = s := by
    cases i with
    | reset l => exact absurd rfl (hother l)
    | _ => rfl
  simp only [State.runFrame, h, hdrawn]

/-- The rest of a frame in reception, byte by byte. -/
theorem execAll_frame {held rest : List Byte} (hp : s.powered = true) (hcomplete : frameComplete (held ++ rest) = true)
    (hlength : (held ++ rest).length = 5 + announcedLength (held ++ rest)) (hrest : rest ≠ []) :
    execAll (rest.map .laneByteReceived) (receiving held s) = .next (s.frameEnded.runFrame (held ++ rest)) := by
  induction rest generalizing held with
  | nil => exact absurd rfl hrest
  | cons b rest ih =>
    have hall : held ++ b :: rest = held ++ [b] ++ rest := by simp
    have hbyte : exec (.laneByteReceived b) (receiving held s) = .next ((receiving held s).receiveBytes (held ++ [b])) :=
      exec_next hp (laneByte_next rfl)
    rw [List.map_cons, execAll_cons hbyte]
    by_cases hlast : rest = []
    · subst hlast
      exact congrArg _ (if_pos hcomplete)
    · rw [hall] at hcomplete hlength ⊢
      rw [receiveBytes_more (frameComplete_prefix hlength hlast)]
      exact ih hcomplete hlength hlast

/-- A command taken whole does what its frame does once judged. -/
theorem exec_command (hcode : 1 ≤ commandCode i) (hother : ∀ l, i ≠ .reset l) (htakes : s.Takes i) (hfit : operandsFit i = true) :
    exec i s = .next (commandAct i s.frameEnded) := by
  refine exec_next htakes.1 ?_
  cases i with
  | configure entries => exact command_taken htakes hfit
  | loadTable code contents => exact command_taken htakes hfit
  | readTable code => exact command_taken htakes hfit
  | calStore row => exact command_taken htakes hfit
  | calReload row => exact command_taken htakes hfit
  | planWrite start records => exact command_taken htakes hfit
  | planRead start count => exact command_taken htakes hfit
  | start index => exact command_taken htakes hfit
  | stop => exact command_taken htakes hfit
  | pause => exact command_taken htakes hfit
  | continueRun => exact command_taken htakes hfit
  | status => exact command_taken htakes hfit
  | peers => exact command_taken htakes hfit
  | photos => exact command_taken htakes hfit
  | reset l => exact absurd rfl (hother l)
  | _ => exact absurd hcode (Nat.not_succ_le_zero 0)

end

/-- Settles O56. -/
theorem laneBytesMakeCommand : Obligations.LaneBytesMakeCommand := by
  refine ⟨fun s i hp hidle hready hwell hcode hbelow => ?_, fun s b hp => ⟨fun hidle hready => ?_, fun held hheld hshort => ?_⟩⟩
  · have hother : ∀ l, i ≠ .reset l := by
      rintro l rfl
      exact absurd hbelow (show ¬15 ≤ 14 by decide)
    have hjudged : ∀ levels, judgeFrame levels (encodeFrame i) = .ok i := fun levels => by
      rw [judgeFrame_command hcode hwell, relevelled_other hother]
    have htakes : s.Takes i := ⟨hp, by simp only [State.takesFrame, hidle, hready]⟩
    have hlength := encodeFrame_length hcode hwell
    have hcomplete := encodeFrame_complete hcode hwell
    rw [exec_command hcode hother htakes (wellFormed_fits hcode hwell), ← runFrame_command hjudged hother]
    cases hframe : encodeFrame i with
    | nil =>
      rw [hframe] at hlength
      exact absurd hlength (by simp; omega)
    | cons b rest =>
      rw [hframe] at hlength hcomplete
      have hrest : rest ≠ [] := by
        rintro rfl
        rw [List.length_singleton] at hlength
        omega
      have hfirst : exec (.laneByteReceived b) s = .next (receiving [b] s) :=
        exec_next hp ((laneByte_first hidle hready).trans (receiveBytes_more (frameComplete_short (by simp))))
      rw [List.map_cons, execAll_cons hfirst]
      exact execAll_frame (held := [b]) hp hcomplete hlength hrest
  · exact exec_next hp ((laneByte_first hidle hready).trans (receiveBytes_more (frameComplete_short (by simp))))
  · exact exec_next hp ((laneByte_next hheld).trans (receiveBytes_more (frameComplete_short (by simp; omega))))

/-! ## Faulty and broken frames (R190, R191) -/

section
variable {s : State} {frame p : List Byte} {levels : InputLevels}

theorem ofLength_none {n : Nat} {i : Instr} (h : p.length ≠ n) : ofLength n p i = none := if_neg h

theorem parseConfigure_none (h : p.length = 0 ∨ p.length ≠ 1 + 5 * field p 0 1) : parseConfigure p = none :=
  if_neg (by omega)

theorem parsePlanWrite_none (h : p.length < 2 ∨ p.length ≠ 2 + 23 * field p 1 1) : parsePlanWrite p = none :=
  if_neg (by omega)

/-- The length of contents that their table and its own segment count announce (R209). -/
def announcedContents (code segments : Nat) : Nat :=
  match code with
  | 0 => 6
  | 1 => 32
  | 2 => 1 + 6 * segments
  | 3 => 1 + 6 * segments
  | _ => 29

theorem segmentsSpecs_length (n : Nat) : specsLength (segmentsSpecs n) = 6 * n := by
  induction n with
  | zero => rfl
  | succ n ih =>
    have hone : specsLength (segmentsSpecs (n + 1)) = 6 + specsLength (segmentsSpecs n) := by
      simp [segmentsSpecs, segmentSpecs, specsLength]
      omega
    omega

theorem specsLength_announced (code : Nat) (contents : List Byte) :
    specsLength (tableSpecs code contents) = announcedContents code (field contents 0 1) := by
  have hsegments : ∀ n, specsLength (⟨1, false, 0, 16⟩ :: segmentsSpecs n) = 1 + 6 * n := fun n => by
    rw [← segmentsSpecs_length n]
    rfl
  match code with
  | 0 => rfl
  | 1 => rfl
  | 2 => exact hsegments _
  | 3 => exact hsegments _
  | _ + 4 => rfl

theorem parseLoadTable_none {contents : List Byte} (hcode : field p 0 1 ≤ 7) (hcontents : p.drop 1 = contents)
    (h : contents.length = 0 ∨ contents.length ≠ announcedContents (field p 0 1) (field contents 0 1)) :
    parseLoadTable p = none := by
  have hunfit : contentsFit (field p 0 1) contents = false := by
    rw [contentsFit, specsLength_announced, beq_eq_false_iff_ne]
    rcases h with h | h
    · have hsome : announcedContents (field p 0 1) (field contents 0 1) ≠ 0 := by
        unfold announcedContents
        split <;> omega
      rw [h]
      exact hsome.symm
    · exact h
  refine if_neg ?_
  rintro ⟨-, hfits⟩
  rw [hcontents, hunfit] at hfits
  rcases hfits with hfits | hfits
  · omega
  · exact Bool.false_ne_true hfits

/-- The fault of a complete frame (R191). -/
theorem frameFaultOf_error {f : FrameFault} (hlength : frame.length = 5 + announcedLength frame)
    (h : judgeFrame lowLevels frame = .error f) : frameFaultOf frame = some f := by
  have hcomplete : frameComplete frame = true := by
    simp only [frameComplete, decide_eq_true_eq]
    omega
  simp only [frameFaultOf, hcomplete, hlength, true_and, if_true, h]

theorem badFrame_taken {f : FrameFault} (hp : s.powered = true) (hfault : frameFaultOf frame = some f)
    (htakes : s.takesFrame frame = true) (hfree : s.FreeReport 1) :
    exec (.badFrame frame) s = .next (s.answered ⟨field frame 0 1, .badValue, faultDetail f, .nothing⟩) := by
  refine exec_next hp ?_
  show badFrameAct frame s = _
  simp only [badFrameAct, hfault]
  exact (if_pos htakes).trans (State.reply_answered (k := 0) _ hfree)

theorem badFrame_dropped {f : FrameFault} (hp : s.powered = true) (hfault : frameFaultOf frame = some f)
    (hidle : s.cmu.receiver = none) (hready : s.cmu.ready = false) : exec (.badFrame frame) s =
      .next (s.withCmu { s.cmu with laneDiscards := min (s.cmu.laneDiscards + frame.length) 65535 }) := by
  have htakes : ¬s.takesFrame frame = true := by simp [State.takesFrame, hidle, hready]
  refine exec_next hp ?_
  show badFrameAct frame s = _
  simp only [badFrameAct, hfault]
  exact (if_neg htakes).trans (if_pos (by rw [hidle]; rfl))

/-- The judgement of a complete frame by its parts (R191). -/
theorem judgeFrame_check (hlength : frame.length = 5 + announcedLength frame)
    (h : field frame (frame.length - 2) 2 ≠ (crc16 (frame.take (frame.length - 2))).toNat) :
    judgeFrame levels frame = .error .check := by
  have hbefore : frame.length - 2 = 3 + announcedLength frame := by omega
  rw [hbefore] at h
  exact if_pos h

theorem judgeFrame_unknown (hlength : frame.length = 5 + announcedLength frame)
    (h : field frame (frame.length - 2) 2 = (crc16 (frame.take (frame.length - 2))).toNat)
    (hcode : knownCode (field frame 0 1) = false) : judgeFrame levels frame = .error .unknown := by
  have hbefore : frame.length - 2 = 3 + announcedLength frame := by omega
  rw [hbefore] at h
  exact (if_neg (not_not.2 h)).trans (if_pos hcode)

theorem judgeFrame_form (hlength : frame.length = 5 + announcedLength frame)
    (h : field frame (frame.length - 2) 2 = (crc16 (frame.take (frame.length - 2))).toNat)
    (hcode : knownCode (field frame 0 1) = true)
    (hnone : parsePayloadOf levels (field frame 0 1) (slice frame 3 (announcedLength frame)) = none) :
    judgeFrame levels frame = .error .form := by
  have hbefore : frame.length - 2 = 3 + announcedLength frame := by omega
  rw [hbefore] at h
  refine (if_neg (not_not.2 h)).trans ((if_neg (by simp [hcode])).trans ?_)
  rw [hnone]

theorem field_slice {bs : List Byte} {start n offset w : Nat} (h : offset + w ≤ n) :
    field (slice bs start n) offset w = field bs (start + offset) w := by
  rw [field, field, slice, slice, slice, List.drop_take, List.take_take, List.drop_drop, Nat.min_eq_left (by omega)]

end

/-- Settles O55. -/
theorem faultyFramesAnswered : Obligations.FaultyFramesAnswered := by
  intro s hp
  refine ⟨?_, fun held e hheld hgap hle hfree => ?_, fun hidle hready => ?_⟩
  · intro frame d hlength code n segments contents unfit hfaulty
    have hcode : field frame 0 1 = code := rfl
    obtain ⟨f, hfault, rfl⟩ : ∃ f, frameFaultOf frame = some f ∧ faultDetail f = d := by
      rcases hfaulty with ⟨hcheck, rfl⟩ | ⟨hcheck, hunknown, rfl⟩ | ⟨hcheck, hlow, hhigh, hunfit, rfl⟩
      · exact ⟨.check, frameFaultOf_error hlength (judgeFrame_check hlength hcheck), rfl⟩
      · refine ⟨.unknown, frameFaultOf_error hlength (judgeFrame_unknown hlength hcheck ?_), rfl⟩
        rw [hcode, knownCode, decide_eq_false_iff_not]
        omega
      · refine ⟨.form, frameFaultOf_error hlength (judgeFrame_form hlength hcheck ?_ ?_), rfl⟩
        · rw [hcode, knownCode, decide_eq_true_iff]
          exact ⟨hlow, hhigh⟩
        · have hannounced : announcedLength frame = n := by omega
          rw [hannounced, hcode]
          have hpayload : (slice frame 3 n).length = n := by
            rw [slice, List.length_take, List.length_drop]
            omega
          have hfirst : 1 ≤ n → field (slice frame 3 n) 0 1 = field frame 3 1 := fun h => field_slice h
          have hsecond : 2 ≤ n → field (slice frame 3 n) 1 1 = field frame 4 1 := fun h => field_slice h
          have hinner : 2 ≤ n → field ((slice frame 3 n).drop 1) 0 1 = field frame 4 1 := fun h => by
            rw [← hsecond h]
            exact congrArg unle (congrArg (List.take 1) (List.drop_drop ..))
          simp only [unfit] at hunfit
          clear_value code
          clear unfit
          have hcontents : contents = announcedContents (field frame 3 1) (field frame 4 1) := rfl
          clear_value contents
          generalize slice frame 3 n = p at hpayload hfirst hsecond hinner ⊢
          clear_value n
          subst hpayload
          have hfixed : ∀ {k : Nat} {i : Instr}, p.length ≠ k → ofLength k p i = none := ofLength_none
          interval_cases code
          · have hconfigure : p.length = 0 ∨ p.length ≠ 1 + 5 * field frame 3 1 := hunfit
            exact parseConfigure_none (by omega)
          · rcases hunfit with hempty | ⟨htable, hunfit⟩
            · exact if_neg fun h => by omega
            · by_cases hempty : p.length = 0
              · exact if_neg fun h => by omega
              · rw [← hfirst (by omega)] at htable hcontents
                refine parseLoadTable_none htable rfl ?_
                rw [List.length_drop]
                rcases hunfit with hone | hlong
                · exact .inl (by omega)
                · by_cases hone : p.length = 1
                  · exact .inl (by omega)
                  · rw [hinner (by omega), ← hcontents]
                    exact .inr (by omega)
          · exact hfixed hunfit
          · exact hfixed hunfit
          · exact hfixed hunfit
          · have hplan : p.length < 2 ∨ p.length ≠ 2 + 23 * field frame 4 1 := hunfit
            exact parsePlanWrite_none (by omega)
          · exact hfixed hunfit
          · exact hfixed hunfit
          · exact hfixed hunfit
          · exact hfixed hunfit
          · exact hfixed hunfit
          · exact hfixed hunfit
          · exact hfixed hunfit
          · exact hfixed hunfit
          · exact hfixed hunfit
    exact ⟨fun htakes hfree => badFrame_taken hp hfault htakes hfree,
      fun hidle hready => badFrame_dropped hp hfault hidle hready⟩
  · refine exec_next hp ?_
    show laneGapAct s = _
    simp only [laneGapAct, hheld, due_of hgap hle, if_true]
    exact State.reply_answered (k := 0) _ hfree
  · refine exec_next hp ?_
    exact if_pos (by simp [hidle, hready])

end Sys2Proof.Proofs.LaneFrames

/-! CONFIGURE: its refusals, the settings it brings into force, and the thresholds judged (R180, R193 to R195, R209). -/

namespace Sys2Proof.Proofs.Configuring

open Sys2Proof.Machine Sys2Proof.Proofs.Effects Sys2Proof.Proofs.Resets Sys2Proof.Proofs.RunCommands
open Sys2Proof.Proofs.Refusals

/-! ## Refusals (R194, step 1) -/

section
variable {es : List SettingEntry}

theorem badEntry_none {seen : List Nat} : badEntry seen es = none ↔
    (∀ e ∈ es, (1 ≤ e.number.toNat ∧ e.number.toNat ≤ 29) ∧ e.number.toNat ∉ seen) ∧ (es.map (·.number)).Nodup := by
  induction es generalizing seen with
  | nil => simp [badEntry]
  | cons e rest ih =>
    have hfresh : (∀ x ∈ rest, (1 ≤ x.number.toNat ∧ x.number.toNat ≤ 29) ∧ x.number.toNat ∉ e.number.toNat :: seen) ↔
        (∀ x ∈ rest, (1 ≤ x.number.toNat ∧ x.number.toNat ≤ 29) ∧ x.number.toNat ∉ seen) ∧
          e.number ∉ rest.map (·.number) := by
      constructor
      · refine fun h => ⟨fun x hx => ⟨(h x hx).1, fun hs => (h x hx).2 (List.mem_cons_of_mem _ hs)⟩, fun hmem => ?_⟩
        obtain ⟨x, hx, heq⟩ := List.mem_map.1 hmem
        exact (h x hx).2 (by rw [heq]; exact List.mem_cons_self)
      · rintro ⟨h, hnew⟩ x hx
        refine ⟨(h x hx).1, fun hmem => ?_⟩
        rcases List.mem_cons.1 hmem with heq | hseen
        · exact hnew (List.mem_map.2 ⟨x, hx, BitVec.eq_of_toNat_eq heq⟩)
        · exact (h x hx).2 hseen
    rw [badEntry, List.forall_mem_cons, List.map_cons, List.nodup_cons]
    by_cases hbad : e.number.toNat = 0 ∨ 29 < e.number.toNat ∨ seen.contains e.number.toNat = true
    · rw [if_pos hbad]
      rw [List.contains_iff_mem] at hbad
      refine ⟨(fun h => nomatch h), ?_⟩
      rintro ⟨⟨⟨⟨hlow, hhigh⟩, hnew⟩, -⟩, -⟩
      rcases hbad with h | h | h
      · omega
      · omega
      · exact absurd h hnew
    · rw [if_neg hbad, ih, hfresh]
      rw [List.contains_iff_mem, not_or, not_or] at hbad
      obtain ⟨hzero, hlarge, hnew⟩ := hbad
      have hgood : (1 ≤ e.number.toNat ∧ e.number.toNat ≤ 29) ∧ e.number.toNat ∉ seen := ⟨by omega, hnew⟩
      tauto

theorem stationGiven_iff : stationGiven es = true ↔ ∃ n, given es 1 = some n ∧ 1 ≤ n ∧ n ≤ 15 := by
  unfold stationGiven
  cases given es 1 with
  | none => simp
  | some n => simp

theorem badEnumerated_none : badEnumerated es = none ↔ (∀ v, given es 12 = some v → 0 ≤ v ∧ v ≤ 2) ∧
    ∀ k ∈ [14, 16, 17], ∀ v, given es k = some v → v = 0 ∨ v = 1 := by
  have hlisted : ∀ (k : Nat) (last : Int), (¬(given es k).any (fun v => decide (v < 0 ∨ last < v)) = true) ↔
      ∀ v, given es k = some v → 0 ≤ v ∧ v ≤ last := fun k last => by
    cases given es k with
    | none => simp
    | some n => simp
  have hyes : ∀ k, (∀ v, given es k = some v → 0 ≤ v ∧ v ≤ 1) ↔ ∀ v, given es k = some v → v = 0 ∨ v = 1 := fun k =>
    forall_congr' fun v => imp_congr_right fun _ => by omega
  rw [badEnumerated, Option.map_eq_none_iff, List.find?_eq_none]
  simp only [enumerated, List.forall_mem_cons, List.not_mem_nil, false_imp_iff, implies_true, and_true]
  rw [hlisted, hlisted, hlisted, hlisted, hyes, hyes, hyes]

theorem refusedSetting_none : refusedSetting es = none ↔
    stationGiven es = true ∧ badEntry [] es = none ∧ badEnumerated es = none := by
  unfold refusedSetting
  cases hstation : stationGiven es with
  | false => simp
  | true => cases hentry : badEntry [] es <;> simp

end

/-- Settles O46. -/
theorem configureRefused : Obligations.ConfigureRefused := by
  refine ⟨fun es => ?_, fun s es htakes hfew hfree => ?_⟩
  · rw [refusedSetting_none, stationGiven_iff, badEntry_none, badEnumerated_none]
    simp only [List.not_mem_nil, not_false_eq_true, and_true, and_assoc]
  · have hfit : operandsFit (.configure es) = true := by simpa [operandsFit] using hfew
    refine ⟨fun hrunning => ?_, fun hstopped k hrefused => ?_, fun hstopped haccepted hleaving => ?_⟩
    · exact refused_of htakes hfit rfl (if_pos hrunning) hfree
    · refine refused_of htakes hfit rfl ((if_neg hstopped).trans ?_) hfree
      rw [hrefused]
      rfl
    · refine refused_of htakes hfit rfl ((if_neg hstopped).trans ?_) hfree
      rw [haccepted]
      exact if_pos hleaving

/-! ## The settings in force (R194, steps 2 and 3) -/

/-- A setting's row: number, bounds, default and value in force. -/
abbrev Row := Nat × Int × Int × Int × Int

section
variable {es : List SettingEntry}

/-- A numeric setting is in force as a row says: the value given or by default, clamped, and named where that changed it. -/
def InForce (es : List SettingEntry) (p : NumericSpec) (r : Row) : Prop :=
  r.1 = p.number ∧ r.2.2.2.2 = max r.2.1 (min r.2.2.1 ((given es r.1).getD r.2.2.2.1)) ∧
    ((p.changed es || dependentChanged es p.number) = true ↔ (given es r.1).getD r.2.2.2.1 ≠ r.2.2.2.2)

theorem clampInt_eq {lo hi x : Int} (h : lo ≤ hi) : clampInt lo hi x = max lo (min hi x) := by
  unfold clampInt
  split
  · omega
  · split <;> omega

theorem value_eq {p : NumericSpec} (h : p.lo ≤ p.default ∧ p.default ≤ p.hi) :
    p.value es = max p.lo (min p.hi ((given es p.number).getD p.default)) := by
  unfold NumericSpec.value
  cases given es p.number with
  | none =>
    show p.default = max p.lo (min p.hi p.default)
    omega
  | some v => exact clampInt_eq (by omega)

theorem changed_iff {p : NumericSpec} :
    p.changed es = true ↔ (given es p.number).getD p.default ≠ p.value es := by
  unfold NumericSpec.changed NumericSpec.value
  cases given es p.number with
  | none => simp
  | some v => simpa using ne_comm

/-- A setting without a dependent clamp. -/
theorem inForce_int {p : NumericSpec} {value : Int} (hvalue : value = p.value es)
    (hown : dependentChanged es p.number = false) (hbounds : p.lo ≤ p.default ∧ p.default ≤ p.hi) :
    InForce es p (p.number, p.lo, p.hi, p.default, value) := by
  refine ⟨rfl, hvalue.trans (value_eq hbounds), ?_⟩
  rw [hown, Bool.or_false, changed_iff, hvalue]

theorem value_nat {p : NumericSpec} {n : Nat} (hvalue : n = (p.value es).toNat)
    (hbounds : 0 ≤ p.lo ∧ p.lo ≤ p.default ∧ p.default ≤ p.hi) : (n : Int) = p.value es := by
  have hpos := value_eq (es := es) hbounds.2
  omega

/-- A setting held as a natural number. -/
theorem inForce_nat {p : NumericSpec} {n : Nat} (hvalue : n = (p.value es).toNat)
    (hown : dependentChanged es p.number = false) (hbounds : 0 ≤ p.lo ∧ p.lo ≤ p.default ∧ p.default ≤ p.hi) :
    InForce es p (p.number, p.lo, p.hi, p.default, (n : Int)) := inForce_int (value_nat hvalue hbounds) hown hbounds.2

/-- The low period limit: its upper bound is the high limit in force (R194, step 3). -/
theorem inForce_periodLow : InForce es ⟨4, 5000, 100000, 9500⟩
    (4, 5000, ((configurationOf es).periodHigh : Int), 9500, ((configurationOf es).periodLow : Int)) := by
  have hlow : (ownValue es 4 : Int) = NumericSpec.value ⟨4, 5000, 100000, 9500⟩ es := value_nat rfl (by decide)
  have hclampedLow : NumericSpec.value ⟨4, 5000, 100000, 9500⟩ es = max 5000 (min 100000 ((given es 4).getD 9500)) :=
    value_eq (by decide)
  have hhigh : (ownValue es 5 : Int) = max 5000 (min 100000 ((given es 5).getD 10500)) :=
    (value_nat (p := ⟨5, 5000, 100000, 10500⟩) rfl (by decide)).trans (value_eq (by decide))
  have hchanged : NumericSpec.changed ⟨4, 5000, 100000, 9500⟩ es = true ↔
      (given es 4).getD 9500 ≠ NumericSpec.value ⟨4, 5000, 100000, 9500⟩ es := changed_iff
  have hdependent : dependentChanged es 4 = true ↔ ownValue es 5 < ownValue es 4 := decide_eq_true_iff
  refine ⟨rfl, ?_, ?_⟩
  · show ((min (ownValue es 4) (ownValue es 5) : Nat) : Int) = max 5000 (min (ownValue es 5 : Int) ((given es 4).getD 9500))
    omega
  · show (NumericSpec.changed ⟨4, 5000, 100000, 9500⟩ es || dependentChanged es 4) = true ↔
      (given es 4).getD 9500 ≠ ((min (ownValue es 4) (ownValue es 5) : Nat) : Int)
    rw [Bool.or_eq_true, hchanged, hdependent]
    omega

/-- The resume threshold: it lies below the thin threshold in force (R194, step 3). -/
theorem inForce_resume : InForce es ⟨28, 0, unbounded, 1024⟩
    (28, 0, ((configurationOf es).thinThreshold : Int) - 1, 1024, ((configurationOf es).resumeThreshold : Int)) := by
  have hresume : (ownValue es 28 : Int) = NumericSpec.value ⟨28, 0, unbounded, 1024⟩ es := value_nat rfl (by decide)
  have hclamped : NumericSpec.value ⟨28, 0, unbounded, 1024⟩ es = max 0 (min 2147483647 ((given es 28).getD 1024)) :=
    value_eq (by decide)
  have hthin : (ownValue es 27 : Int) = max 256 (min 1983 ((given es 27).getD 1536)) :=
    (value_nat (p := ⟨27, 256, 1983, 1536⟩) rfl (by decide)).trans (value_eq (by decide))
  have hchanged : NumericSpec.changed ⟨28, 0, unbounded, 1024⟩ es = true ↔
      (given es 28).getD 1024 ≠ NumericSpec.value ⟨28, 0, unbounded, 1024⟩ es := changed_iff
  have hdependent : dependentChanged es 28 = true ↔ ownValue es 27 ≤ ownValue es 28 := decide_eq_true_iff
  refine ⟨rfl, ?_, ?_⟩
  · show ((min (ownValue es 28) (ownValue es 27 - 1) : Nat) : Int) =
      max 0 (min ((ownValue es 27 : Int) - 1) ((given es 28).getD 1024))
    omega
  · show (NumericSpec.changed ⟨28, 0, unbounded, 1024⟩ es || dependentChanged es 28) = true ↔
      (given es 28).getD 1024 ≠ ((min (ownValue es 28) (ownValue es 27 - 1) : Nat) : Int)
    rw [Bool.or_eq_true, hchanged, hdependent]
    omega

/-- D: at most floor(P/8), and that by default (R194, step 3). -/
theorem inForce_dither : InForce es ⟨8, 0, unbounded, 25⟩
    (8, 0, ((configurationOf es).basePeriod : Int) / 8, ((configurationOf es).basePeriod : Int) / 8,
      ((configurationOf es).dither : Int)) := by
  have hown : (ownValue es 8 : Int) = NumericSpec.value ⟨8, 0, unbounded, 25⟩ es := value_nat rfl (by decide)
  have hclamped : NumericSpec.value ⟨8, 0, unbounded, 25⟩ es = max 0 (min 2147483647 ((given es 8).getD 25)) :=
    value_eq (by decide)
  have hbase : (ownValue es 7 : Int) = max 100 (min 10000 ((given es 7).getD 200)) :=
    (value_nat (p := ⟨7, 100, 10000, 200⟩) rfl (by decide)).trans (value_eq (by decide))
  have hchanged : NumericSpec.changed ⟨8, 0, unbounded, 25⟩ es = true ↔
      (given es 8).getD 25 ≠ NumericSpec.value ⟨8, 0, unbounded, 25⟩ es := changed_iff
  have hdependent : dependentChanged es 8 = true ↔ ditherLimit es < ownDither es := decide_eq_true_iff
  have hvalue : ((ownDither es : Nat) : Int) = (given es 8).elim ((ownValue es 7 / 8 : Nat) : Int) (fun _ => ownValue es 8) := by
    unfold ownDither ditherLimit
    cases given es 8 <;> rfl
  refine ⟨rfl, ?_, ?_⟩
  · show ((min (ownDither es) (ownValue es 7 / 8) : Nat) : Int) =
      max 0 (min ((ownValue es 7 : Int) / 8) ((given es 8).getD ((ownValue es 7 : Int) / 8)))
    cases hgiven : given es 8 with
    | none =>
      simp only [hgiven, Option.elim, Option.getD] at hvalue hclamped ⊢
      omega
    | some v =>
      simp only [hgiven, Option.elim, Option.getD] at hvalue hclamped ⊢
      omega
  · show (NumericSpec.changed ⟨8, 0, unbounded, 25⟩ es || dependentChanged es 8) = true ↔
      (given es 8).getD ((ownValue es 7 : Int) / 8) ≠ ((min (ownDither es) (ownValue es 7 / 8) : Nat) : Int)
    rw [Bool.or_eq_true, hchanged, hdependent, ditherLimit]
    cases hgiven : given es 8 with
    | none =>
      simp only [hgiven, Option.elim, Option.getD] at hvalue hclamped ⊢
      omega
    | some v =>
      simp only [hgiven, Option.elim, Option.getD] at hvalue hclamped ⊢
      omega

/-- What rows say of their settings, and the settings they name as changed. -/
theorem rows_named {specs : List NumericSpec} {rows : List Row} (h : List.Forall₂ (InForce es) specs rows) :
    (∀ r ∈ rows, r.2.2.2.2 = max r.2.1 (min r.2.2.1 ((given es r.1).getD r.2.2.2.1))) ∧
      (specs.filter fun p => p.changed es || dependentChanged es p.number).map (·.number) =
        (rows.filter fun r => (given es r.1).getD r.2.2.2.1 ≠ r.2.2.2.2).map (·.1) := by
  induction h with
  | nil => exact ⟨by simp, rfl⟩
  | @cons p r specs rows hp _ ih =>
    obtain ⟨hnumber, hvalue, hnamed⟩ := hp
    obtain ⟨hrest, hmap⟩ := ih
    refine ⟨List.forall_mem_cons.2 ⟨hvalue, hrest⟩, ?_⟩
    have hrow : decide ((given es r.1).getD r.2.2.2.1 ≠ r.2.2.2.2) = (p.changed es || dependentChanged es p.number) := by
      rw [Bool.eq_iff_iff, decide_eq_true_iff, hnamed]
    rw [List.filter_cons, List.filter_cons, hrow]
    split
    · rw [List.map_cons, List.map_cons, hmap, hnumber]
    · exact hmap

theorem continuityOf_eq (v : Option Int) :
    continuityOf v = if v = some 0 then .off else if v = some 2 then .both else .oneSide := by
  unfold continuityOf
  split
  · rfl
  · rfl
  · rename_i hoff hboth
    rw [if_neg hoff, if_neg hboth]

theorem unconfirmedOf_eq (v : Option Int) : unconfirmedOf v = if v = some 0 then .mark else .drop := by
  unfold unconfirmedOf
  split
  · rfl
  · rw [if_neg ‹_›]

theorem yesOf_eq (v : Option Int) : yesOf v = decide (v ≠ some 0) := by
  unfold yesOf
  split
  · rfl
  · exact (decide_eq_true ‹_›).symm

end

/-! ## The thresholds judged (R179, R180) -/

section
variable {s : State}

/-- A record whose entry brings the occupancy to the thin threshold in NORMAL: THINNING, with THINNING_ON behind it (R179). -/
theorem enter_thins {r : Record} (hkind : r.isThinningOff = false) (hnormal : s.rps.thinning = false)
    (hevents : s.rps.events = []) (hroom : s.rps.queue.length + 2 ≤ 2048)
    (hat : s.rps.queue.length + 1 = s.cmu.settings.thinThreshold) :
    s.enter r = s.withRps (Rps.plusEvent s.cmu.settings s.time (.thinningOn s.cmu.settings.thinThreshold)
      { s.rps.plus r with thinning := true }) := by
  have happended : s.rps.append s.cmu.settings s.time r =
      Rps.note s.cmu.settings s.time (.thinningOn s.cmu.settings.thinThreshold) { s.rps.plus r with thinning := true } := by
    simp only [Rps.append, Rps.plus, hnormal, hkind, List.length_append, List.length_singleton, hat, Bool.not_false,
      Bool.true_and, beq_self_eq_true, if_true]
  have hfree : (s.withRps { s.rps.plus r with thinning := true }).FreeReport 1 := by
    refine ⟨hevents, ?_, .inl rfl⟩
    show (s.rps.queue ++ [r]).length + 1 ≤ 2048
    rw [List.length_append, List.length_singleton]
    exact hroom
  have hraised := State.raise_free (k := 0) (.thinningOn s.cmu.settings.thinThreshold) hfree
  rw [State.enter, Rps.enter, happended]
  exact hraised

/-- The same for a reply (R179, R192). -/
theorem sendReply_thins {r : Reply} (hnormal : s.rps.thinning = false) (hevents : s.rps.events = [])
    (hroom : s.rps.queue.length + 2 ≤ 2048) (hat : s.rps.queue.length + 1 = s.cmu.settings.thinThreshold) :
    s.sendReply r = (s.withCmu { s.cmu with ready := true, reply := none }).withRps
      (Rps.plusEvent s.cmu.settings s.time (.thinningOn s.cmu.settings.thinThreshold)
        { s.rps.plus (.reply r) with thinning := true }) := by
  have hfits : s.rps.room = true := by
    rw [Rps.room, decide_eq_true_iff]
    show s.rps.queue.length < 2048
    omega
  rw [State.sendReply, if_pos hfits, enter_thins rfl hnormal hevents hroom hat]
  rfl

theorem judgeThresholds_kept (hon : s.rps.thinning = false → s.rps.queue.length < s.cmu.settings.thinThreshold)
    (hoff : s.rps.thinning = true → s.cmu.settings.resumeThreshold < s.rps.queue.length) : s.judgeThresholds = s := by
  refine (if_neg ?_).trans (if_neg ?_)
  · rintro ⟨hnormal, hfull⟩
    exact absurd (hon hnormal) (Nat.not_lt.2 hfull)
  · rintro ⟨hthin, hlow⟩
    exact absurd (hoff hthin) (Nat.not_lt.2 hlow)

theorem judgeThresholds_on {k : Nat} (hnormal : s.rps.thinning = false)
    (hfull : s.cmu.settings.thinThreshold ≤ s.rps.queue.length) (hevents : s.rps.events = [])
    (hroom : s.rps.queue.length + (k + 1) ≤ 2048) : s.judgeThresholds = s.withRps (Rps.plusEvent s.cmu.settings s.time
      (.thinningOn s.rps.queue.length) { s.rps with thinning := true }) :=
  (if_pos ⟨hnormal, hfull⟩).trans (State.raise_free (k := k) (.thinningOn s.rps.queue.length)
    (s := s.withRps { s.rps with thinning := true }) ⟨hevents, hroom, .inl rfl⟩)

theorem judgeThresholds_off {k : Nat} (hthin : s.rps.thinning = true)
    (hlow : s.rps.queue.length ≤ s.cmu.settings.resumeThreshold) (hevents : s.rps.events = [])
    (hroom : s.rps.queue.length + (k + 1) ≤ 2048) (hbelow : s.rps.queue.length + (k + 1) < s.cmu.settings.thinThreshold) :
    s.judgeThresholds = s.withRps (Rps.plusEvent s.cmu.settings s.time (.thinningOff s.rps.queue.length)
      { s.rps with thinning := false }) :=
  (if_neg (by simp [hthin])).trans ((if_pos ⟨hthin, hlow⟩).trans (State.raise_free (k := k) (.thinningOff s.rps.queue.length)
    (s := s.withRps { s.rps with thinning := false }) ⟨hevents, hroom, .inr hbelow⟩))

/-- A configuration in force, its thresholds not judged yet (R195). -/
def reconfigured (c : Settings) (s : State) : State :=
  (s.withAnu (s.anu.reconfigure s.cmu.settings c)).withCmu { s.cmu with settings := c, device := .ready }

/-- An accepted CONFIGURE (R194). -/
theorem configureAct_accepted {es : List SettingEntry} (hstopped : s.cmu.device ≠ .running)
    (haccepted : refusedSetting es = none) (hstays : s.slc.membership ≠ .leaving) : configureAct es s =
      (reconfigured (configurationOf es) s).judgeThresholds.sendReply (configuredReply (clampedSettings es)) := by
  unfold configureAct
  rw [if_neg hstopped, haccepted]
  exact if_neg hstays

end

/-- Settles O45. -/
theorem configureAccepted : Obligations.ConfigureAccepted := by
  intro s es htakes hfew hstopped hstays haccepted hevents hroom c numeric clamped
  have hrows : List.Forall₂ (InForce es) numericSpecs numeric := by
    simp only [numericSpecs, numeric, List.cons_append, List.nil_append, List.forall₂_cons]
    refine ⟨inForce_nat rfl rfl (by decide), inForce_nat rfl rfl (by decide), inForce_periodLow,
      inForce_nat rfl rfl (by decide), inForce_nat rfl rfl (by decide), inForce_nat rfl rfl (by decide), inForce_dither,
      inForce_nat rfl rfl (by decide), inForce_nat rfl rfl (by decide), inForce_nat rfl rfl (by decide),
      inForce_nat rfl rfl (by decide), inForce_int ?_ rfl (by decide), inForce_nat rfl rfl (by decide),
      inForce_nat rfl rfl (by decide), inForce_nat rfl rfl (by decide), inForce_nat rfl rfl (by decide),
      inForce_nat rfl rfl (by decide), inForce_nat rfl rfl (by decide), inForce_nat rfl rfl (by decide),
      inForce_nat rfl rfl (by decide), inForce_nat rfl rfl (by decide), inForce_nat rfl rfl (by decide),
      inForce_resume, .nil⟩
    show (given es 15).elim 0 (clampInt (-300) 300) = _
    unfold NumericSpec.value
    cases given es 15 <;> rfl
  obtain ⟨hvalues, hnamed⟩ := rows_named hrows
  obtain ⟨hstation, -, -⟩ := refusedSetting_none.1 haccepted
  have hfit : operandsFit (.configure es) = true := by simpa [operandsFit] using hfew
  refine ⟨fun k lo hi default value hmem => hvalues _ hmem, ?_, continuityOf_eq _, unconfirmedOf_eq _, yesOf_eq _, yesOf_eq _, ?_,
    ?_⟩
  · obtain ⟨n, hgiven, hlow, hhigh⟩ := stationGiven_iff.1 hstation
    have hcast : ((n.toNat : Nat) : Int) = n := Int.toNat_of_nonneg (by omega)
    refine ⟨n.toNat, hgiven.trans (congrArg some hcast.symm), ?_, by omega, by omega⟩
    exact congrArg (Option.map Int.toNat) hgiven
  · show ((given es 29).map (BitVec.ofInt 20)).getD 0 = _
    cases given es 29 <;> rfl
  · intro reply base
    have hreply : configuredReply (clampedSettings es) = reply := by
      show configuredReply _ = _
      rw [clampedSettings, hnamed]
      rfl
    have hacts : effect (.configure es) s = (reconfigured c s.frameEnded).judgeThresholds.sendReply reply := by
      rw [← hreply]
      exact (command_taken htakes hfit).trans (configureAct_accepted hstopped haccepted hstays)
    refine ⟨fun q hq => exec_next htakes.1 (hacts.trans ?_), fun hnormal hat => exec_next htakes.1 (hacts.trans ?_)⟩
    · have hjudged : (reconfigured c s.frameEnded).judgeThresholds = (reconfigured c s.frameEnded).withRps q ∧
          ((reconfigured c s.frameEnded).withRps q).FreeReport 1 := by
        rcases hq with ⟨hnormal, hbelow, rfl⟩ | ⟨hthin, habove, rfl⟩ | ⟨hnormal, hfull, rfl⟩ | ⟨hthin, hlow, hbelow, rfl⟩
        · refine ⟨judgeThresholds_kept (fun _ => ?_) (fun hthin => nomatch hnormal.symm.trans hthin), hevents, ?_, .inr hbelow⟩
          · show s.rps.queue.length < c.thinThreshold
            omega
          · show s.rps.queue.length + 1 ≤ 2048
            omega
        · refine ⟨judgeThresholds_kept (fun hnormal => nomatch hthin.symm.trans hnormal) fun _ => habove, hevents, ?_, .inl hthin⟩
          show s.rps.queue.length + 1 ≤ 2048
          omega
        · exact ⟨judgeThresholds_on (k := 1) (s := reconfigured c s.frameEnded) hnormal hfull hevents hroom,
            State.FreeReport.plusEvent (s := (reconfigured c s.frameEnded).withRps { s.rps with thinning := true }) _
              ⟨hevents, hroom, .inl rfl⟩⟩
        · exact ⟨judgeThresholds_off (k := 1) (s := reconfigured c s.frameEnded) hthin hlow hevents hroom hbelow,
            State.FreeReport.plusEvent (s := (reconfigured c s.frameEnded).withRps { s.rps with thinning := false }) _
              ⟨hevents, hroom, .inr hbelow⟩⟩
      obtain ⟨hjudged, hfree⟩ := hjudged
      rw [hjudged, State.sendReply_free (k := 0) _ hfree]
      rfl
    · have hkept := judgeThresholds_kept (s := reconfigured c s.frameEnded) (fun _ => by
        show s.rps.queue.length < c.thinThreshold
        omega) (fun hthin => nomatch hnormal.symm.trans hthin)
      rw [hkept, sendReply_thins (s := reconfigured c s.frameEnded) hnormal hevents hroom hat]
      rfl

end Sys2Proof.Proofs.Configuring

/-! The read commands (R120, R151, R179, R192, R199) and the layouts of their replies (R215, R216). -/

namespace Sys2Proof.Proofs.ReadBack

open Sys2Proof.Machine Sys2Proof.Proofs.Effects Sys2Proof.Proofs.Resets Sys2Proof.Proofs.RunCommands
open Sys2Proof.Proofs.Refusals Sys2Proof.Proofs.Configuring Sys2Proof.Proofs.Layout

/-! ## The answers (R199) -/

section
variable {s : State}

/-- The items of STATUS are read from the state as it stands (R120, R199). -/
theorem statusReport_eq (s : State) : s.statusReport =
    ⟨s.cmu.device, s.cmu.settings.station, s.slc.membership, s.pwk.state, s.pwk.armed, s.pwk.pausePending,
      if s.pwk.state = .halted then s.pwk.ownHold.map (· + 100000000 * s.cmu.settings.holdMinimum) else none,
      s.pwk.recordIndex, s.pwk.lineCounter, s.pwk.attemptNumber, (s.pwk.segment.map (·.counted)).getD 0, s.anu.monitor,
      s.rps.queue.length, s.rps.thinning, s.cst.write.map (·.row), s.cst.cause, s.cst.interruptedRow, s.cmu.laneDiscards⟩ := by
  rw [State.statusReport, State.holdEnd, ticksOfS_eq]
  rfl

/-- A reply to a full queue waits (R192). -/
theorem sendReply_waits (r : Reply) (hfull : s.rps.queue.length = 2048) :
    s.sendReply r = s.withCmu { s.cmu with ready := false, reply := some r } := by
  refine if_neg ?_
  rw [Rps.room, decide_eq_true_iff]
  exact (Nat.le_of_eq hfull.symm).not_gt

end

/-! ## The layouts (R215, R216) -/

section

/-- A REPLY's layout, by the fields of its arguments. -/
theorem reply_layout_at {r : Reply} {length : Nat} {fields : List (Nat × Nat × Nat)} (hlength : 5 + r.args.bytes.length = length)
    (hfields : ∀ f ∈ fields, 5 ≤ f.1 ∧ field r.args.bytes (f.1 - 5) f.2.1 = f.2.2 % 256 ^ f.2.1) :
    (Record.reply r).HasLayout 7 length fields := by
  have hmoved : (fields.map fun f => (f.1 - 5, f.2)).map (fun f => (5 + f.1, f.2.1, f.2.2)) = fields := by
    rw [List.map_map]
    refine (List.map_congr_left fun f hf => ?_).trans (List.map_id _)
    obtain ⟨hpast, -⟩ := hfields f hf
    exact Prod.ext (Nat.add_sub_cancel' hpast) rfl
  rw [← hmoved]
  refine reply_layout hlength fun f hf => ?_
  obtain ⟨g, hg, rfl⟩ := List.mem_map.1 hf
  exact (hfields g hg).2

/-- A field behind a row of items. -/
theorem field_past_items {α : Type} {item : α → List Byte} {k : Nat} (hk : ∀ x, (item x).length = k) (l : List α)
    (rest : List Byte) (offset w : Nat) : field (l.flatMap item ++ rest) (k * l.length + offset) w = field rest offset w := by
  rw [field_append_past _ _ (by rw [flatMap_length hk]; omega), flatMap_length hk, Nat.add_sub_cancel_left]

theorem membershipCode_eq (m : Membership) : membershipCode m = match m with
    | .offline => 0 | .joining => 1 | .live => 2 | .leaving => 3 | .duplicate => 4 := by
  cases m <;> rfl

theorem reply_bytes (r : Reply) : (Record.reply r).bytes = slice (Record.reply r).bytes 0 2 ++ [BitVec.ofNat 8 r.code,
    BitVec.ofNat 8 (outcomeCode r.outcome), BitVec.ofNat 8 r.detail] ++ r.args.bytes := rfl

theorem status_layout (r : StatusReport) : (Record.reply ⟨12, .ok, 0, .status r⟩).HasLayout 7 35
    ([(0, 1, deviceCode r.device), (1, 1, r.station.getD 0), (2, 1, membershipCode r.membership),
      (3, 1, walkerCode r.walker), (4, 1, r.armed.toNat + 2 * r.pausePending.toNat + 4 * r.holdEnd.isSome.toNat),
      (5, 1, r.recordIndex), (6, 4, r.lineCounter), (10, 2, r.attempt), (12, 1, r.counted), (13, 6, r.holdEnd.getD 0),
      (19, 1, monitorCode r.monitor), (20, 2, r.occupancy), (22, 1, r.thinning.toNat), (23, 1, r.writeRow.isSome.toNat),
      (24, 1, r.writeRow.getD 0), (25, 1, resetCauseCode r.cause), (26, 1, r.interruptedRow.isSome.toNat),
      (27, 1, r.interruptedRow.getD 0), (28, 2, r.laneDiscards)].map fun f => (5 + f.1, f.2.1, f.2.2)) := by
  refine reply_layout ?_ ?_
  · simp [ReplyArgs.bytes, StatusReport.bytes, le_length, flagsByte_eq]
  · simp [ReplyArgs.bytes, StatusReport.bytes, flagsByte_eq]
    omega

theorem peerReport_length (p : PeerReport) : p.bytes.length = 7 := by
  simp [PeerReport.bytes, le_length, flagsByte_eq]

theorem peers_layout (station : Option Nat) (m : Membership) (ps : List PeerReport) (d : DiscardCounters) :
    (Record.reply ⟨13, .ok, 0, .peers station m ps d⟩).HasLayout 7 (18 + 7 * ps.length)
      ([(5, 1, station.getD 0), (6, 1, membershipCode m), (7, 1, ps.length), (8 + 7 * ps.length, 2, d.broken),
        (10 + 7 * ps.length, 2, d.check), (12 + 7 * ps.length, 2, d.station), (14 + 7 * ps.length, 2, d.kind),
        (16 + 7 * ps.length, 2, d.form)] ++ ps.zipIdx.flatMap fun p =>
        [(8 + 7 * p.2, 1, p.1.station), (9 + 7 * p.2, 1, membershipCode p.1.seen), (10 + 7 * p.2, 2, p.1.sinceHeard),
         (12 + 7 * p.2, 1, p.1.firing.toNat + 2 * p.1.hold.toNat + 4 * p.1.grantedToMe.toNat +
           8 * p.1.windowLeft.isSome.toNat), (13 + 7 * p.2, 2, p.1.windowLeft.getD 0)]) := by
  have hargs : (ReplyArgs.peers station m ps d).bytes = (le 1 (station.getD 0) ++ le 1 (membershipCode m) ++
      le 1 ps.length) ++ (ps.flatMap PeerReport.bytes ++ d.bytes) := List.append_assoc _ _ _
  have hhead : (le 1 (station.getD 0) ++ le 1 (membershipCode m) ++ le 1 ps.length).length = 3 := by
    simp only [List.length_append, le_length]
  have hcounters : ∀ {place offset w : Nat}, place = 3 + 7 * ps.length + offset →
      field (ReplyArgs.peers station m ps d).bytes place w = field d.bytes offset w := by
    intro place offset w hplace
    rw [hargs, field_append_past _ _ (by omega), ← field_past_items peerReport_length ps d.bytes offset w]
    congr 1
    omega
  refine reply_layout_at ?_ (List.forall_mem_append.2 ⟨?_, ?_⟩)
  · show 5 + (ReplyArgs.peers station m ps d).bytes.length = _
    have hcountersLength : d.bytes.length = 10 := by simp [DiscardCounters.bytes, le_length]
    have hitems := flatMap_length peerReport_length ps
    rw [hargs, List.length_append, hhead, List.length_append]
    omega
  · simp only [List.forall_mem_cons, List.not_mem_nil, false_imp_iff, implies_true, and_true]
    refine ⟨⟨by omega, ?_⟩, ⟨by omega, ?_⟩, ⟨by omega, ?_⟩, ⟨by omega, (hcounters (offset := 0) (by omega)).trans ?_⟩,
      ⟨by omega, (hcounters (offset := 2) (by omega)).trans ?_⟩, ⟨by omega, (hcounters (offset := 4) (by omega)).trans ?_⟩,
      ⟨by omega, (hcounters (offset := 6) (by omega)).trans ?_⟩, ⟨by omega, (hcounters (offset := 8) (by omega)).trans ?_⟩⟩
    · simp [ReplyArgs.bytes]
    · simp [ReplyArgs.bytes]
    · simp [ReplyArgs.bytes]
    · simp [DiscardCounters.bytes]
    · simp [DiscardCounters.bytes]
    · simp [DiscardCounters.bytes]
    · simp [DiscardCounters.bytes]
    · simp [DiscardCounters.bytes]
  · refine List.forall_mem_flatMap.2 fun p hp => ?_
    obtain ⟨hi, hvalue⟩ := mem_zipIdx_getElem hp
    have hitem : ∀ {place offset w : Nat}, place = 3 + 7 * p.2 + offset → offset + w ≤ 7 →
        field (ReplyArgs.peers station m ps d).bytes place w = field p.1.bytes offset w := by
      intro place offset w hplace hwithin
      rw [hargs, ← hvalue]
      exact field_items peerReport_length hi d.bytes hhead hplace hwithin
    simp only [List.forall_mem_cons, List.not_mem_nil, false_imp_iff, implies_true, and_true]
    refine ⟨⟨by omega, (hitem (offset := 0) (by omega) (by omega)).trans ?_⟩,
      ⟨by omega, (hitem (offset := 1) (by omega) (by omega)).trans ?_⟩,
      ⟨by omega, (hitem (offset := 2) (by omega) (by omega)).trans ?_⟩,
      ⟨by omega, (hitem (offset := 4) (by omega) (by omega)).trans ?_⟩,
      ⟨by omega, (hitem (offset := 5) (by omega) (by omega)).trans ?_⟩⟩
    · simp [PeerReport.bytes]
    · simp [PeerReport.bytes]
    · simp [PeerReport.bytes]
    · simp [PeerReport.bytes, flagsByte_eq]
      omega
    · simp [PeerReport.bytes, flagsByte_eq]

end

/-- Settles O53. -/
theorem readBackAnswered : Obligations.ReadBackAnswered := by
  unfold Obligations.ReadBackAnswered
  intro membership
  have hmembership : membershipCode = membership := funext membershipCode_eq
  refine ⟨fun s report hreport => ⟨fun htakes hfree => ?_, fun htakes hfull => ?_,
    fun htakes hevents hnormal hroom hat => ?_, fun htakes hfree => ?_, fun htakes hfree => ?_⟩, fun r => ?_, fun r => ?_,
    fun station m ps d => ?_, fun ps next q => ?_⟩
  · rw [hreport, ← statusReport_eq]
    exact refused_of htakes rfl rfl rfl hfree
  · have hacts : effect .status s = s.frameEnded.sendReply ⟨12, .ok, 0, .status s.statusReport⟩ := command_taken htakes rfl
    rw [hreport, ← statusReport_eq]
    exact exec_next htakes.1 (hacts.trans (sendReply_waits _ hfull))
  · have hacts : effect .status s = s.frameEnded.sendReply ⟨12, .ok, 0, .status s.statusReport⟩ := command_taken htakes rfl
    rw [sendReply_thins (s := s.frameEnded) hnormal hevents hroom hat] at hacts
    rw [hreport, ← statusReport_eq]
    exact ⟨_, exec_next htakes.1 hacts, rfl⟩
  · exact refused_of htakes rfl rfl rfl hfree
  · exact refused_of htakes rfl rfl rfl hfree
  · rw [reply_bytes]
    cases r.outcome <;> rfl
  · have hlayout := status_layout r
    rw [hmembership] at hlayout
    exact hlayout
  · have hlayout := peers_layout station m ps d
    rw [hmembership] at hlayout
    exact hlayout
  · have hphotos : ps.flatMap (fun p => (Record.photo p).bytes.drop 2) = ps.flatMap Photo.body := rfl
    have hargs : (Record.reply ⟨14, .ok, 0, .photos ps next q⟩).bytes.drop 5 = (ReplyArgs.photos ps next q).bytes := rfl
    rw [hargs, hphotos, ReplyArgs.bytes]
    cases q <;> simp [le, photoStateCode]

end Sys2Proof.Proofs.ReadBack

/-! The calibration store: CAL_STORE, WRITE_COMPLETION and CAL_RELOAD (R202, R203). -/

namespace Sys2Proof.Proofs.Store

open Sys2Proof.Machine Sys2Proof.Proofs.Effects Sys2Proof.Proofs.Resets Sys2Proof.Proofs.RunCommands

section
variable {s : State}

theorem setIfInBounds_set {α : Type} {n i : Nat} (xs : Vector α n) (x : α) (h : i < n) : xs.setIfInBounds i x = xs.set i x := by
  refine Vector.ext fun j hj => ?_
  rw [Vector.getElem_setIfInBounds, Vector.getElem_set]

theorem rowState_get {x : Cst} {row : Nat} (h : row < 8) : x.rowState row = x.rowStates[row] := by
  simp [Cst.rowState, h]

theorem row_get {x : Cst} {row : Nat} (h : row < 8) : x.row row = x.rows[row] := by
  simp [Cst.row, h]

theorem source_get {x : Cst} {row : Nat} (h : row < 8) : x.source row = x.sources[row] := by
  simp [Cst.source, h]

/-- A table set while a frame ends. -/
theorem setTable_frameEnded (code : Nat) (v : List Int) (s : State) :
    s.frameEnded.setTable code v = (s.setTable code v).frameEnded := by
  unfold State.setTable
  split <;> rfl

/-- A working table takes the contents of its row, or its default's (R200). -/
theorem loadTable_eq (row : Nat) (s : State) : s.loadTable row =
    (s.setTable row (tableValues row ((s.cst.row row).loaded row))).withCst (s.cst.mark row
      (if (s.cst.row row).passes row then .store else .default)
      (if (s.cst.row row).passes row then .good else .bad)) := by
  obtain ⟨-, hcst, -⟩ := State.setTable_others row (tableValues row ((s.cst.row row).loaded row)) s
  unfold State.loadTable
  split
  · rename_i hpasses
    simp only [hcst, hpasses, if_true]
  · rename_i hfails
    simp only [hcst, hfails, Bool.false_eq_true, if_false]

theorem loadTable_passes {row : Nat} (hrow : row < 8) (h : s.cst.rows[row].passes row = true) : s.loadTable row =
    (s.setTable row (tableValues row s.cst.rows[row].contents)).withCst { s.cst with
      sources := s.cst.sources.set row .store, rowStates := s.cst.rowStates.set row .good } := by
  rw [loadTable_eq, row_get hrow, StoreRow.loaded, h, Cst.mark, setIfInBounds_set _ _ hrow, setIfInBounds_set _ _ hrow]
  rfl

theorem loadTable_fails {row : Nat} (hrow : row < 8) (h : s.cst.rows[row].passes row = false) : s.loadTable row =
    (s.setTable row (tableValues row (defaultContents row))).withCst { s.cst with
      sources := s.cst.sources.set row .default, rowStates := s.cst.rowStates.set row .bad } := by
  rw [loadTable_eq, row_get hrow, StoreRow.loaded, h, Cst.mark, setIfInBounds_set _ _ hrow, setIfInBounds_set _ _ hrow]
  rfl

/-- Room in the report stream does not depend on the working tables. -/
theorem setTable_free {k : Nat} (code : Nat) (v : List Int) (h : s.FreeReport k) : (s.setTable code v).FreeReport k := by
  obtain ⟨hrps, -, hcmu, -⟩ := State.setTable_others code v s
  rw [State.FreeReport, hrps, hcmu]
  exact h

theorem calReloadAct_reloads {row : Byte} (hrow : row.toNat < 8) (hstopped : s.cmu.device ≠ .running)
    (hidle : s.cst.rowStates[row.toNat] ≠ .writing) :
    calReloadAct row s = (s.reload row.toNat).sendReply (reloadReply (s.cst.rows[row.toNat].passes row.toNat)) := by
  rw [← rowState_get hrow] at hidle
  rw [← row_get hrow]
  exact (if_neg hstopped).trans ((if_neg (by omega)).trans (if_neg hidle))

/-- A table set with the store's marks, a command answered. -/
def tableLoaded (code : Nat) (contents : List Byte) (x : Cst) (s : State) : State :=
  (s.setTable code (tableValues code contents)).withCst x

theorem tableLoaded_frameEnded (code : Nat) (contents : List Byte) (x : Cst) (s : State) :
    tableLoaded code contents x s.frameEnded = (tableLoaded code contents x s).frameEnded := by
  rw [tableLoaded, tableLoaded, setTable_frameEnded]
  rfl

theorem tableLoaded_free {k : Nat} (code : Nat) (contents : List Byte) (x : Cst) (h : s.FreeReport k) :
    (tableLoaded code contents x s).FreeReport k := setTable_free code _ h

theorem reload_passes {row : Nat} (hrow : row < 8) (h : s.cst.rows[row].passes row = true) : s.reload row =
    tableLoaded row s.cst.rows[row].contents { s.cst with
      sources := s.cst.sources.set row .store, rowStates := s.cst.rowStates.set row .good } s := by
  rw [tableLoaded, ← loadTable_passes hrow h, State.reload, row_get hrow, if_pos h]

theorem reload_fails {k row : Nat} (hrow : row < 8) (h : s.cst.rows[row].passes row = false) (hfree : s.FreeReport (k + 1)) :
    s.reload row = (tableLoaded row (defaultContents row) { s.cst with
      sources := s.cst.sources.set row .default, rowStates := s.cst.rowStates.set row .bad } s).withRps
        (s.rps.plusEvent s.cmu.settings s.time (.calRowBad row .reload)) := by
  obtain ⟨hrps, -, hcmu, htime⟩ := State.setTable_others row (tableValues row (defaultContents row)) s
  rw [State.reload, row_get hrow, h, if_neg Bool.false_ne_true, loadTable_fails hrow h, ← tableLoaded,
    State.raise_free _ (tableLoaded_free row (defaultContents row) _ hfree)]
  show State.withRps _ (Rps.plusEvent (s.setTable row _).cmu.settings (s.setTable row _).time _ (s.setTable row _).rps) = _
  rw [hrps, hcmu, htime]

/-- A CAL_RELOAD answered (R202). -/
theorem exec_calReload {row : Byte} {t : State} (htakes : s.Takes (.calReload row)) (hrow : row.toNat < 8)
    (hstopped : s.cmu.device ≠ .running) (hidle : s.cst.rowStates[row.toNat] ≠ .writing)
    (hreload : s.frameEnded.reload row.toNat = t.frameEnded) (hfree : t.FreeReport 1) : exec (.calReload row) s =
      .next (t.answered (reloadReply (s.cst.rows[row.toNat].passes row.toNat))) := by
  have hacts := calReloadAct_reloads (s := s.frameEnded) hrow hstopped hidle
  rw [hreload] at hacts
  exact answered_of (k := 0) htakes rfl rfl hacts hfree

end

/-- Settles O48. -/
theorem rowsStoreAndReload : Obligations.RowsStoreAndReload := by
  intro s row hrow
  refine ⟨fun htakes hidle hfree => ?_, fun contents e hp hwrite hle hfree => ?_, fun htakes hstopped hidle hfree =>
    ⟨fun hpasses => ?_, fun hfails => ?_⟩⟩
  · have hacts : calStoreAct row s.frameEnded = (s.frameEnded.withCst (s.cst.startWrite s.time row.toNat
        (s.tableContents row.toNat))).sendReply (plainReply 4 .ok) :=
      (if_neg (Nat.not_lt.2 (Nat.le_of_lt_succ hrow))).trans (if_neg (by simp [State.frameEnded, hidle]))
    have hstarted : s.cst.startWrite s.time row.toNat (s.tableContents row.toNat) = { s.cst with
        rows := s.cst.rows.set row.toNat .erased, rowStates := s.cst.rowStates.set row.toNat .writing
        write := some ⟨row.toNat, s.tableContents row.toNat, s.time + 400000⟩ } := by
      rw [Cst.startWrite, setIfInBounds_set _ _ hrow, setIfInBounds_set _ _ hrow]
      rfl
    rw [← hstarted]
    exact answered_of (k := 0) (t := s.withCst (s.cst.startWrite s.time row.toNat (s.tableContents row.toNat))) htakes rfl rfl
      hacts hfree
  · have hcompleted : s.cst.completeWrite ⟨row.toNat, contents, e⟩ = { s.cst with
        rows := s.cst.rows.set row.toNat ⟨contents, some (crc16 contents)⟩
        rowStates := s.cst.rowStates.set row.toNat .good, write := none } := by
      rw [Cst.completeWrite, setIfInBounds_set _ _ hrow, setIfInBounds_set _ _ hrow]
    have hacts : effect .writeCompletion s =
        (s.withCst (s.cst.completeWrite ⟨row.toNat, contents, e⟩)).raise (.calStored row.toNat) := by
      show writeCompletionAct s = _
      simp only [writeCompletionAct, hwrite, if_pos hle]
    rw [hcompleted] at hacts
    exact exec_next hp (hacts.trans (State.raise_free (k := 0) (.calStored row.toNat) hfree))
  · have hreload := reload_passes (s := s.frameEnded) hrow hpasses
    rw [tableLoaded_frameEnded] at hreload
    have hanswered := exec_calReload htakes hrow hstopped hidle hreload
      (tableLoaded_free row.toNat _ _ (hfree.mono (by omega)))
    rw [hpasses] at hanswered
    exact hanswered
  · have hreload := reload_fails (k := 1) (s := s.frameEnded) hrow hfails hfree
    rw [tableLoaded_frameEnded] at hreload
    have hroom : ((tableLoaded row.toNat (defaultContents row.toNat) { s.cst with
        sources := s.cst.sources.set row.toNat .default, rowStates := s.cst.rowStates.set row.toNat .bad } s).withRps
          (s.rps.plusEvent s.cmu.settings s.time (.calRowBad row.toNat .reload))).FreeReport 1 := by
      obtain ⟨-, -, hcmu, -⟩ := State.setTable_others row.toNat (tableValues row.toNat (defaultContents row.toNat)) s
      have hevent := hfree.plusEvent (.calRowBad row.toNat .reload)
      rw [State.FreeReport, tableLoaded, State.withRps_cmu, State.withCst_cmu, hcmu]
      exact hevent
    have hanswered := exec_calReload htakes hrow hstopped hidle (t := (tableLoaded row.toNat (defaultContents row.toNat) { s.cst with
        sources := s.cst.sources.set row.toNat .default, rowStates := s.cst.rowStates.set row.toNat .bad } s).withRps
          (s.rps.plusEvent s.cmu.settings s.time (.calRowBad row.toNat .reload))) hreload hroom
    rw [hfails] at hanswered
    exact hanswered

end Sys2Proof.Proofs.Store

/-! LOAD_TABLE and READ_TABLE (R199, R201, R209): the fields of a table's contents, judged, loaded and read back. -/

namespace Sys2Proof.Proofs.Tables

open Sys2Proof.Machine Sys2Proof.Proofs.Effects Sys2Proof.Proofs.Resets Sys2Proof.Proofs.RunCommands
open Sys2Proof.Proofs.Refusals Sys2Proof.Proofs.Layout Sys2Proof.Proofs.Store Sys2Proof.Proofs.ReadBack

/-! ## Bytes and numbers (R207) -/

theorem unle_lt (bs : List Byte) : unle bs < 256 ^ bs.length := by
  induction bs with
  | nil => exact Nat.one_pos
  | cons b rest ih =>
    have hbyte := b.isLt
    rw [unle, List.length_cons, Nat.pow_succ]
    omega

/-- A number's bytes, written back. -/
theorem le_unle (bs : List Byte) : le bs.length (unle bs) = bs := by
  induction bs with
  | nil => rfl
  | cons b rest ih =>
    have hlow : BitVec.ofNat 8 (b.toNat + 256 * unle rest) = b := by
      refine BitVec.eq_of_toNat_eq ?_
      have hbyte := b.isLt
      rw [BitVec.toNat_ofNat]
      omega
    have hhigh : (b.toNat + 256 * unle rest) / 256 = unle rest := by
      have hbyte := b.isLt
      omega
    rw [List.length_cons, unle, le, hlow, hhigh, ih]

theorem leInt_of_nat {w n : Nat} (h : n < 256 ^ w) : leInt w n = le w n := by
  rw [leInt, ← Int.natCast_mod, Int.toNat_natCast, Nat.mod_eq_of_lt h]

theorem leInt_toNat {w : Nat} {x : Int} (hlow : 0 ≤ x) (hhigh : x < 256 ^ w) : leInt w x = le w x.toNat := by
  have hcast : ((x.toNat : Nat) : Int) = x := Int.toNat_of_nonneg hlow
  rw [← leInt_of_nat (w := w) (n := x.toNat) (by exact_mod_cast hcast ▸ hhigh), hcast]

/-- A signed number's bytes, written back. -/
theorem leInt_unleInt (bs : List Byte) : leInt bs.length (unleInt bs) = bs := by
  have hlt := unle_lt bs
  have hmod : unleInt bs % ((256 ^ bs.length : Nat) : Int) = (unle bs : Int) := by
    unfold unleInt
    split
    · exact Int.emod_eq_of_lt (by omega) (by exact_mod_cast hlt)
    · rw [Int.sub_emod_right]
      exact Int.emod_eq_of_lt (by omega) (by exact_mod_cast hlt)
  rw [leInt, hmod, Int.toNat_natCast, le_unle]

/-! ## Fields and their ranges (R201, R209) -/

section
variable {specs : List FieldSpec} {bs : List Byte}

/-- The value of a field whose bytes come first. -/
def firstValue (f : FieldSpec) (bs : List Byte) : Int :=
  if f.signed then unleInt (bs.take f.width) else (unle (bs.take f.width) : Int)

/-- A value within a field's range. -/
def InRange (f : FieldSpec) (x : Int) : Prop := f.lo ≤ x ∧ x ≤ f.hi

/-- Field j of contents lies in its range, if there is one (R201). -/
def Good (specs : List FieldSpec) (bs : List Byte) (j : Nat) : Prop :=
  ∀ f, specs[j]? = some f → InRange f (firstValue f (bs.drop (((specs.take j).map (·.width)).sum)))

theorem readFields_cons (f : FieldSpec) (fs : List FieldSpec) (bs : List Byte) :
    readFields (f :: fs) bs = firstValue f bs :: readFields fs (bs.drop f.width) := rfl

theorem good_zero {f : FieldSpec} : Good (f :: specs) bs 0 ↔ InRange f (firstValue f bs) := by
  simp [Good]

theorem good_succ {f : FieldSpec} {j : Nat} : Good (f :: specs) bs (j + 1) ↔ Good specs (bs.drop f.width) j := by
  simp [Good, List.drop_drop]

/-- With every field in range none is named. -/
theorem firstBad_none (h : ∀ j, Good specs bs j) (n : Nat) : firstBadFrom n specs (readFields specs bs) = none ∧
    List.Forall₂ InRange specs (readFields specs bs) := by
  induction specs generalizing bs n with
  | nil => exact ⟨rfl, .nil⟩
  | cons f fs ih =>
    have hfirst := good_zero.1 (h 0)
    obtain ⟨hnone, hrest⟩ := ih (fun j => good_succ.1 (h (j + 1))) (n + 1)
    rw [readFields_cons]
    exact ⟨(if_pos hfirst).trans hnone, .cons hfirst hrest⟩

/-- The first field outside its range is named by its number. -/
theorem firstBad_some {j : Nat} (hbad : ¬Good specs bs j) (hbefore : ∀ i, i < j → Good specs bs i) (n : Nat) :
    firstBadFrom n specs (readFields specs bs) = some (n + j) := by
  induction specs generalizing bs j n with
  | nil => exact absurd (fun f hf => by simp at hf) hbad
  | cons f fs ih =>
    rw [readFields_cons]
    cases j with
    | zero => exact if_neg (mt good_zero.2 hbad)
    | succ j =>
      have hnamed := ih (mt good_succ.2 hbad) (fun i hi => good_succ.1 (hbefore (i + 1) (by omega))) (n + 1)
      refine (if_pos (good_zero.1 (hbefore 0 (by omega)))).trans (hnamed.trans ?_)
      congr 1
      omega

/-- Contents of the announced length are written back from their values. -/
theorem writeFields_readFields (h : bs.length = specsLength specs) : writeFields specs (readFields specs bs) = bs := by
  induction specs generalizing bs with
  | nil => exact (List.eq_nil_of_length_eq_zero h).symm
  | cons f fs ih =>
    have hlength : bs.length = f.width + specsLength fs := h
    have htake : (bs.take f.width).length = f.width := by
      rw [List.length_take]
      omega
    have hfirst : leInt f.width (firstValue f bs) = bs.take f.width := by
      have hlt := unle_lt (bs.take f.width)
      have hsigned := leInt_unleInt (bs.take f.width)
      have hunsigned := le_unle (bs.take f.width)
      rw [htake] at hlt hsigned hunsigned
      unfold firstValue
      split
      · exact hsigned
      · rw [leInt_of_nat hlt, hunsigned]
    rw [readFields_cons, writeFields, hfirst, ih (by rw [List.length_drop]; omega), List.take_append_drop]

end

/-! ## Tables written from their values (R209) -/

section
variable {v : List Int}

/-- An unsigned field's value in range. -/
theorem leInt_inRange {f : FieldSpec} {x : Int} (h : InRange f x) (hlow : 0 ≤ f.lo) (hhigh : f.hi < 256 ^ f.width) :
    leInt f.width x = le f.width x.toNat := leInt_toNat (hlow.trans h.1) (h.2.trans_lt hhigh)

theorem rangeTable_written (h : List.Forall₂ InRange [⟨4, false, 1400000, 1700000⟩, ⟨2, false, 0, 65535⟩] v) :
    (rangeTableOf v).contents = writeFields [⟨4, false, 1400000, 1700000⟩, ⟨2, false, 0, 65535⟩] v := by
  obtain _ | ⟨hk, _ | ⟨hz, _ | _⟩⟩ := h
  rw [writeFields, writeFields, writeFields, leInt_inRange hk (by norm_num) (by norm_num),
    leInt_inRange hz (by norm_num) (by norm_num), List.append_nil]
  · rfl
  · exact fun _ _ _ _ h => nomatch h

theorem walk_written {f : FieldSpec} (hf : f.width = 2) (h : List.Forall₂ InRange (.replicate 16 f) v) :
    walkContents (walkTableOf v) = writeFields (.replicate 16 f) v := by
  have hlength : v.length = 16 := by simpa using h.length_eq.symm
  have hlist : (walkTableOf v).toList = v := by
    refine List.ext_getElem (by simp [hlength]) fun i hi hi' => ?_
    simp [walkTableOf, hi']
  have hrow : ∀ (n : Nat) (w : List Int), w.length = n → w.flatMap (leInt 2) = writeFields (.replicate n f) w := by
    intro n w hw
    induction w generalizing n with
    | nil =>
      subst hw
      rfl
    | cons x rest ih =>
      subst hw
      rw [List.flatMap_cons, ih rest.length rfl, List.length_cons, List.replicate_succ, writeFields, hf]
  rw [walkContents, hlist, hrow 16 v hlength]

theorem segments_written {n : Nat} (h : List.Forall₂ InRange (segmentsSpecs n) v) : (segmentsOf v).length = n ∧
    ((segmentsOf v).flatMap fun g => le 4 g.span ++ leInt 2 g.correction) = writeFields (segmentsSpecs n) v := by
  induction n generalizing v with
  | zero =>
    obtain _ | _ := h
    exact ⟨rfl, rfl⟩
  | succ n ih =>
    obtain _ | @⟨_, span, _, _, hspan, _ | @⟨_, c, _, rest, hc, hrest⟩⟩ := h
    obtain ⟨hlength, hbytes⟩ := ih hrest
    have hbounds : leInt 4 span = le 4 span.toNat := leInt_inRange hspan (by norm_num) (by norm_num)
    refine ⟨by rw [segmentsOf, List.length_cons, hlength], ?_⟩
    have hwritten : writeFields (segmentsSpecs (n + 1)) (span :: c :: rest) =
        leInt 4 span ++ (leInt 2 c ++ writeFields (segmentsSpecs n) rest) := rfl
    rw [segmentsOf, List.flatMap_cons, hbytes, hwritten, hbounds, List.append_assoc]

theorem correction_written {n : Nat} (hn : n ≤ 16)
    (h : List.Forall₂ InRange (segmentsSpecs n) v) : correctionContents (correctionOf ((n : Int) :: v)) =
      writeFields (⟨1, false, 0, 16⟩ :: segmentsSpecs n) ((n : Int) :: v) := by
  obtain ⟨hlength, hbytes⟩ := segments_written h
  rw [writeFields, leInt_of_nat (show n < 256 ^ 1 by omega), ← hbytes, correctionContents, correctionOf, List.drop_one, List.tail_cons, hlength]

theorem camera_written (h : List.Forall₂ InRange cameraSpecs v) :
    (cameraOf v).contents = writeFields cameraSpecs v := by
  obtain _ | @⟨_, x0, _, _, h0, _ | @⟨_, x1, _, _, h1, _ | @⟨_, x2, _, _, h2, _ | @⟨_, x3, _, _, h3, _ | @⟨_, x4, _, _, h4,
    _ | @⟨_, x5, _, _, h5, _ | @⟨_, x6, _, _, h6, _ | @⟨_, x7, _, _, h7, _ | @⟨_, x8, _, _, h8, _ | @⟨_, x9, _, _, h9,
    _ | @⟨_, x10, _, _, h10, _ | _⟩⟩⟩⟩⟩⟩⟩⟩⟩⟩⟩ := h
  have hpresent : [flagByte (x0 == 1)] = leInt 1 x0 := by
    obtain ⟨hlow, hhigh⟩ : 0 ≤ x0 ∧ x0 ≤ 1 := h0
    rcases (show x0 = 0 ∨ x0 = 1 by omega) with rfl | rfl <;> rfl
  have hwritten : writeFields cameraSpecs [x0, x1, x2, x3, x4, x5, x6, x7, x8, x9, x10] = leInt 1 x0 ++ (leInt 3 x1 ++
      (leInt 3 x2 ++ (leInt 3 x3 ++ (leInt 3 x4 ++ (leInt 4 x5 ++ (leInt 4 x6 ++ (leInt 2 x7 ++ (leInt 2 x8 ++
        (leInt 2 x9 ++ (leInt 2 x10 ++ [])))))))))) := rfl
  have hle : ∀ {f : FieldSpec} {x : Int}, InRange f x → 0 ≤ f.lo ∧ f.hi < 256 ^ f.width →
      leInt f.width x = le f.width x.toNat := fun h hf => leInt_inRange h hf.1 hf.2
  rw [hwritten, ← hpresent, hle h1 (by norm_num), hle h3 (by norm_num), hle h4 (by norm_num), hle h5 (by norm_num),
    hle h6 (by norm_num), hle h7 (by norm_num), hle h8 (by norm_num), hle h9 (by norm_num), hle h10 (by norm_num)]
  simp only [CameraGeometry.contents, cameraOf, List.append_assoc, List.append_nil]
  rfl

/-- A table that took the values of contents in range reads back those contents (R201, R209). -/
theorem tableContents_setTable {contents : List Byte} {code : Nat} (s : State) (hcode : code ≤ 7)
    (hlength : contents.length = specsLength (tableSpecs code contents))
    (hgood : List.Forall₂ InRange (tableSpecs code contents) (tableValues code contents)) :
    (s.setTable code (tableValues code contents)).tableContents code = contents := by
  have hwritten := writeFields_readFields hlength
  match code with
  | 0 => exact (rangeTable_written hgood).trans hwritten
  | 1 => exact (walk_written rfl hgood).trans hwritten
  | 2 =>
    obtain _ | ⟨⟨-, hfew⟩, hrest⟩ := hgood
    exact (correction_written (Int.ofNat_le.1 hfew) hrest).trans hwritten
  | 3 =>
    obtain _ | ⟨⟨-, hfew⟩, hrest⟩ := hgood
    exact (correction_written (Int.ofNat_le.1 hfew) hrest).trans hwritten
  | n + 4 =>
    have hcamera := setTable_camera (n + 4) n (by omega) (tableValues (n + 4) contents) s
    rw [if_pos rfl] at hcamera
    exact (congrArg CameraGeometry.contents hcamera).trans ((camera_written hgood).trans hwritten)

end

/-! ## The commands -/

section
variable {s : State} {code : Byte} {contents : List Byte}

theorem loadTable_fit (hlength : contents.length = specsLength (tableSpecs code.toNat contents)) :
    operandsFit (.loadTable code contents) = true := by
  simp [operandsFit, contentsFit, hlength]

/-- A table whose fields all lie in their ranges is loaded (R201). -/
theorem loadTable_loads (htakes : s.Takes (.loadTable code contents)) (hstopped : s.cmu.device ≠ .running)
    (hcode : code.toNat ≤ 7) (hlength : contents.length = specsLength (tableSpecs code.toNat contents))
    (hnone : firstBadField code.toNat contents = none) (hfree : s.FreeReport 1) : exec (.loadTable code contents) s =
      .next (State.answered ⟨2, .ok, 0, .nothing⟩ ((s.setTable code.toNat (tableValues code.toNat contents)).withCst
        { s.cst with sources := s.cst.sources.setIfInBounds code.toNat .command })) := by
  have hacts : loadTableAct code contents s.frameEnded =
      (tableLoaded code.toNat contents { s.cst with
        sources := s.cst.sources.setIfInBounds code.toNat .command } s).frameEnded.sendReply (plainReply 2 .ok) := by
    have hcst := (State.setTable_others code.toNat (tableValues code.toNat contents) s.frameEnded).2.1
    refine (if_neg hstopped).trans ((if_neg (by omega)).trans ?_)
    rw [hnone, ← tableLoaded_frameEnded, tableLoaded]
    simp only [hcst]
    rfl
  exact answered_of (k := 0) (t := tableLoaded code.toNat contents _ s) htakes (loadTable_fit hlength) rfl hacts
    (tableLoaded_free _ _ _ hfree)

/-- A field's row as the obligation writes it: width, signed, least value, greatest value. -/
def specRow (f : FieldSpec) : Nat × Bool × Int × Int := (f.width, f.signed, f.lo, f.hi)

theorem segmentsSpecs_rows (n : Nat) : (segmentsSpecs n).map specRow =
    (List.replicate n [(4, false, 1, 65536), (2, true, -32768, 32767)]).flatten := by
  induction n with
  | zero => rfl
  | succ n ih =>
    rw [List.replicate_succ, List.flatten_cons, ← ih]
    rfl

end

/-- Settles O47. -/
theorem tablesLoadAndRead : Obligations.TablesLoadAndRead := by
  intro s hfree
  refine ⟨fun k z htakes hstopped hlow hhigh hzero => ?_, ?_, fun code source row contents => ⟨?_, ?_⟩,
    fun code hcode htakes => ?_⟩
  · have hvalues : tableValues 0 (le 4 k ++ le 2 z) = [(k : Int), (z : Int)] := by
      have hscale : field (le 4 k ++ le 2 z) 0 4 = k := by
        rw [field_le_here]
        omega
      have hoffset : field (le 4 k ++ le 2 z) 4 2 = z := by
        rw [field_le_past _ _ _ le_rfl, Nat.sub_self, field_le_only]
        omega
      show [((field (le 4 k ++ le 2 z) 0 4 : Nat) : Int), ((field (le 4 k ++ le 2 z) 4 2 : Nat) : Int)] = _
      rw [hscale, hoffset]
    have hnone : firstBadField 0 (le 4 k ++ le 2 z) = none := by
      show firstBadFrom 1 [⟨4, false, 1400000, 1700000⟩, ⟨2, false, 0, 65535⟩] (tableValues 0 (le 4 k ++ le 2 z)) = none
      rw [hvalues]
      exact (if_pos ⟨by simp only; omega, by simp only; omega⟩).trans (if_pos ⟨by simp only; omega, by simp only; omega⟩)
    have hloads := loadTable_loads htakes hstopped (Nat.zero_le 7) rfl hnone hfree
    refine hloads.trans ?_
    show Host.Outcome.next (State.answered _ ((s.withRgu { s.rgu with range := rangeTableOf (tableValues 0 _) }).withCst _)) = _
    have hsource : s.cst.sources.setIfInBounds (0 : Byte).toNat .command = s.cst.sources.set 0 .command :=
      setIfInBounds_set _ _ (by decide)
    rw [hvalues, hsource]
    rfl
  · intro code contents htakes hstopped hcode fields good hlength
    have hfields : fields = (tableSpecs code.toNat contents).map specRow := by
      simp only [fields]
      generalize code.toNat = c
      match c with
      | 0 => rfl
      | 1 => rfl
      | 2 => exact congrArg _ (segmentsSpecs_rows _).symm
      | 3 => exact congrArg _ (segmentsSpecs_rows _).symm
      | _ + 4 => rfl
    have hgood : ∀ j, good j ↔ Good (tableSpecs code.toNat contents) contents j := fun j => by
      have hsum : ((fields.take j).map (·.1)).sum = (((tableSpecs code.toNat contents).take j).map (·.width)).sum := by
        rw [hfields, ← List.map_take, List.map_map]
        rfl
      refine ⟨fun h f hf => ?_, fun h r hr => ?_⟩
      · have hvalue := h (specRow f) (by rw [hfields, List.getElem?_map, hf]; rfl)
        rw [← hsum]
        exact hvalue
      · rw [hfields, List.getElem?_map, Option.map_eq_some_iff] at hr
        obtain ⟨f, hf, rfl⟩ := hr
        have hvalue := h f hf
        rw [← hsum] at hvalue
        exact hvalue
    have hfits : contents.length = specsLength (tableSpecs code.toNat contents) := by
      rw [hlength, hfields, List.map_map]
      rfl
    refine ⟨fun hall => ?_, fun j hbad hbefore => ?_⟩
    · obtain ⟨hnone, hvalues⟩ := firstBad_none (fun j => (hgood j).1 (hall j)) 1
      exact ⟨loadTable_loads htakes hstopped hcode hfits hnone hfree, tableContents_setTable s hcode hfits hvalues⟩
    · have hnamed : firstBadField code.toNat contents = some (1 + j) :=
        firstBad_some (mt (hgood j).2 hbad) (fun i hi => (hgood i).1 (hbefore i hi)) 1
      rw [Nat.add_comm] at hnamed
      refine refused_of htakes (loadTable_fit hfits) rfl ((if_neg hstopped).trans ((if_neg (by omega)).trans ?_)) hfree
      rw [hnamed]
      rfl
  · refine hasLayout_append (first := [(2, 1, 3), (3, 1, 0), (4, 1, 0)]) (reply_layout_at ?_ ?_)
      (reply_header ⟨3, .ok, 0, .table code source row contents⟩)
    · show 5 + (ReplyArgs.table code source row contents).bytes.length = _
      simp only [ReplyArgs.bytes, List.length_append, le_length]
      omega
    · cases source <;> cases row <;> simp [ReplyArgs.bytes, sourceCode, rowStateCode]
  · rfl
  · have hanswer : readTableAct code s.frameEnded = s.frameEnded.sendReply ⟨3, .ok, 0, .table code.toNat
        s.cst.sources[code.toNat] s.cst.rowStates[code.toNat] (s.tableContents code.toNat)⟩ := by
      rw [← source_get hcode, ← rowState_get hcode]
      exact if_neg (by omega)
    exact refused_of htakes rfl rfl hanswer hfree

end Sys2Proof.Proofs.Tables

/-! PLAN_WRITE and PLAN_READ (R96, R199) and the layout of a plan record (R209). -/

namespace Sys2Proof.Proofs.Plans

open Sys2Proof.Machine Sys2Proof.Proofs.Effects Sys2Proof.Proofs.Resets Sys2Proof.Proofs.RunCommands
open Sys2Proof.Proofs.Refusals Sys2Proof.Proofs.Layout Sys2Proof.Proofs.ReadBack Sys2Proof.Proofs.LaneFrames

/-! ## Plan records read and written (R209) -/

section

theorem returnModeOf_none {n : Nat} : returnModeOf n = none ↔ n = 0 ∨ 4 < n := by
  match n with
  | 0 => simp [returnModeOf]
  | 1 => simp [returnModeOf]
  | 2 => simp [returnModeOf]
  | 3 => simp [returnModeOf]
  | 4 => simp [returnModeOf]
  | n + 5 =>
    have hnone : returnModeOf (n + 5) = none := rfl
    simp [hnone]

theorem yesNoOf_none {n : Nat} : yesNoOf n = none ↔ 1 < n := by
  match n with
  | 0 => simp [yesNoOf]
  | 1 => simp [yesNoOf]
  | n + 2 =>
    have hnone : yesNoOf (n + 2) = none := rfl
    simp [hnone]

/-- The bytes of a SEGMENT are refused for a field outside its stored range (R96). -/
theorem segment_refused (r : List Byte) :
    ((parseSegment r).bind fun g => if g.inRange then some (PlanRecord.segment g) else none) = none ↔
      2 ^ 20 ≤ field r 1 3 ∨ 2 ^ 20 ≤ field r 4 3 ∨ fieldInt r 7 3 < -524288 ∨ 524287 < fieldInt r 7 3 ∨
        2 ^ 20 ≤ field r 10 3 ∨ 2 ^ 20 ≤ field r 13 3 ∨ field r 16 1 = 0 ∨ 16 < field r 16 1 ∨ field r 17 1 = 0 ∨
        4 < field r 17 1 ∨ 1 < field r 18 1 ∨ 1000 < field r 19 2 ∨ field r 22 1 = 0 ∨ 15 < field r 22 1 := by
  unfold parseSegment
  cases hmode : returnModeOf (field r 17 1) with
  | none =>
    have hbad := returnModeOf_none.1 hmode
    simp only [Option.bind_none, true_iff]
    tauto
  | some mode =>
    have hmodeGood : ¬(field r 17 1 = 0 ∨ 4 < field r 17 1) := fun h => by
      rw [returnModeOf_none.2 h] at hmode
      cases hmode
    cases hwatch : yesNoOf (field r 18 1) with
    | none =>
      have hbad := yesNoOf_none.1 hwatch
      simp only [Option.bind_none, true_iff]
      tauto
    | some watch =>
      have hwatchGood : ¬1 < field r 18 1 := fun h => by
        rw [yesNoOf_none.2 h] at hwatch
        cases hwatch
      simp only [Option.bind_some, Segment.inRange, ite_eq_right_iff, reduceCtorEq, imp_false, decide_eq_true_eq]
      omega

/-- A signed field of three bytes, read back. -/
theorem unleInt_leInt {x : Int} (hlow : -8388608 ≤ x) (hhigh : x < 8388608) : unleInt (leInt 3 x) = x := by
  have hlength : (leInt 3 x).length = 3 := le_length _ _
  have hunle : (unle (leInt 3 x) : Int) = x % 16777216 := by
    rw [leInt, unle_le_mod]
    omega
  rw [unleInt, hlength]
  split
  · omega
  · omega

/-- A SEGMENT's bytes up to a field, as the fields before it are skipped. -/
theorem segment_fields (g : Segment) (hstep : -524288 ≤ g.step ∧ g.step ≤ 524287) :
    field (PlanRecord.segment g).bytes 0 1 = 1 ∧ field (PlanRecord.segment g).bytes 1 3 = g.azStart % 2 ^ 24 ∧
      field (PlanRecord.segment g).bytes 4 3 = g.azEnd % 2 ^ 24 ∧ fieldInt (PlanRecord.segment g).bytes 7 3 = g.step ∧
      field (PlanRecord.segment g).bytes 7 3 = (g.step % 2 ^ 24).toNat ∧
      field (PlanRecord.segment g).bytes 10 3 = g.mFrom % 2 ^ 24 ∧ field (PlanRecord.segment g).bytes 13 3 = g.mTo % 2 ^ 24 ∧
      field (PlanRecord.segment g).bytes 16 1 = g.divisor % 256 ∧
      field (PlanRecord.segment g).bytes 17 1 = returnModeCode g.mode ∧
      field (PlanRecord.segment g).bytes 18 1 = g.watch.toNat ∧ field (PlanRecord.segment g).bytes 19 2 = g.interval % 65536 ∧
      field (PlanRecord.segment g).bytes 21 1 = g.mask.toNat ∧ field (PlanRecord.segment g).bytes 22 1 = g.retryLimit % 256 := by
  have hmask := g.mask.isLt
  have hstepBytes : slice (PlanRecord.segment g).bytes 7 3 = leInt 3 g.step := by
    simp only [PlanRecord.bytes, List.append_assoc]
    rw [← List.append_assoc, ← List.append_assoc, slice_append_past _ _ (by simp [le_length])]
    simp only [List.length_append, le_length]
    rw [slice_append_within _ (by simp [leInt, le_length]), slice_all (by simp [leInt, le_length])]
  refine ⟨?_, ?_, ?_, ?_, ?_, ?_, ?_, ?_, ?_, ?_, ?_, ?_, ?_⟩
  · simp [PlanRecord.bytes]
  · simp [PlanRecord.bytes]
  · simp [PlanRecord.bytes]
  · rw [fieldInt, hstepBytes, unleInt_leInt (by omega) (by omega)]
  · rw [field, hstepBytes, leInt, unle_le_mod]
    omega
  · simp [PlanRecord.bytes, leInt]
  · simp [PlanRecord.bytes, leInt]
  · simp [PlanRecord.bytes, leInt]
  · cases hmode : g.mode <;> simp [PlanRecord.bytes, leInt, hmode, returnModeCode]
  · cases hwatch : g.watch <;> simp [PlanRecord.bytes, leInt, hwatch, flagByte]
  · simp [PlanRecord.bytes, leInt]
  · simp [PlanRecord.bytes, leInt]
    omega
  · simp [PlanRecord.bytes, leInt]

theorem returnModeOf_code (m : ReturnMode) : returnModeOf (returnModeCode m) = some m := by
  cases m <;> rfl

theorem yesNoOf_toNat (b : Bool) : yesNoOf b.toNat = some b := by
  cases b <;> rfl

theorem planRecord_length (r : PlanRecord) : r.bytes.length = 23 := by
  cases r <;> simp [PlanRecord.bytes, le_length, leInt]

/-- The bytes of a record in range are read back as that record (R96, R209). -/
theorem parseRecord_bytes {r : PlanRecord} (h : r.inRange = true) : parseRecord r.bytes = some r := by
  cases r with
  | segment g =>
    have hrange : g.inRange = true := h
    obtain ⟨hazStart, hazEnd, hlow, hhigh, hmFrom, hmTo, hdivisor, hdivisor', hinterval, hretry, hretry'⟩ := of_decide_eq_true hrange
    obtain ⟨h0, h1, h4, h7, -, h10, h13, h16, h17, h18, h19, h21, h22⟩ := segment_fields g ⟨hlow, hhigh⟩
    have hparsed : parseSegment (PlanRecord.segment g).bytes = some g := by
      rw [Nat.mod_eq_of_lt (by omega)] at h1 h4 h10 h13 h16 h19 h22
      simp only [parseSegment, h1, h4, h7, h10, h13, h16, h17, h18, h19, h21, h22, returnModeOf_code, yesNoOf_toNat,
        BitVec.ofNat_toNat, BitVec.setWidth_eq]
    simp only [parseRecord, h0, hparsed, Option.bind_some, hrange, if_true]
  | photo azimuth mask =>
    have hrange : azimuth < 1048576 := of_decide_eq_true h
    have hmask := mask.isLt
    have hcode : field (PlanRecord.photo azimuth mask).bytes 0 1 = 2 := by simp [PlanRecord.bytes]
    have hazimuth : field (PlanRecord.photo azimuth mask).bytes 1 3 = azimuth := by
      simp [PlanRecord.bytes]
      omega
    have hcameras : field (PlanRecord.photo azimuth mask).bytes 4 1 = mask.toNat := by
      simp [PlanRecord.bytes]
      omega
    simp only [parseRecord, hcode, hazimuth, hcameras, hrange, if_true, BitVec.ofNat_toNat, BitVec.setWidth_eq]
  | repeatFrom target count =>
    obtain ⟨htarget, hcount⟩ : target ≤ 63 ∧ count ≤ 255 := of_decide_eq_true h
    have hcode : field (PlanRecord.repeatFrom target count).bytes 0 1 = 3 := by simp [PlanRecord.bytes]
    have hback : field (PlanRecord.repeatFrom target count).bytes 1 1 = target := by
      simp [PlanRecord.bytes]
      omega
    have htimes : field (PlanRecord.repeatFrom target count).bytes 2 1 = count := by
      simp [PlanRecord.bytes]
      omega
    simp only [parseRecord, hcode, hback, htimes, htarget, if_true]
  | planEnd => rfl

theorem parseRecords_bytes {rs : List PlanRecord} (h : ∀ r ∈ rs, r.inRange = true) :
    parseRecords (rs.map (·.bytes)) = some rs := by
  induction rs with
  | nil => rfl
  | cons r rest ih =>
    obtain ⟨hr, hrest⟩ := List.forall_mem_cons.1 h
    rw [List.map_cons, parseRecords, parseRecord_bytes hr, ih hrest]
    rfl

theorem parseRecords_none {records : List (List Byte)} :
    parseRecords records = none ↔ ∃ r ∈ records, parseRecord r = none := by
  induction records with
  | nil => simp [parseRecords]
  | cons r rest ih =>
    rw [parseRecords, List.exists_mem_cons_iff, ← ih]
    cases parseRecord r <;> simp

end

/-! ## The plan (R96) -/

section
variable {plan : Vector PlanRecord 64}

theorem writeRecords_get (rs : List PlanRecord) (start : Nat) {i : Nat} (h : i < 64) :
    (writeRecords start rs plan)[i] = if start ≤ i then rs.getD (i - start) plan[i] else plan[i] := by
  induction rs generalizing start plan with
  | nil => simp [writeRecords]
  | cons r rest ih =>
    rw [writeRecords, ih, Vector.getElem_setIfInBounds]
    rcases Nat.lt_trichotomy start i with hlt | rfl | hgt
    · obtain ⟨d, rfl⟩ : ∃ d, i = start + 1 + d := ⟨i - (start + 1), by omega⟩
      rw [if_pos (by omega), if_neg (by omega), if_pos (by omega), Nat.add_sub_cancel_left,
        show start + 1 + d - start = d + 1 by omega, List.getD_cons_succ]
    · rw [if_neg (by omega), if_pos rfl, if_pos le_rfl, Nat.sub_self, List.getD_cons_zero]
    · rw [if_neg (by omega), if_neg (by omega), if_neg (by omega)]

theorem records_eq (x : Pwk) {start count : Nat} (h : start + count ≤ 64) :
    x.records start count = (x.plan.toList.drop start).take count := by
  refine List.ext_getElem (by simp [Pwk.records]; omega) fun i hi hi' => ?_
  have hin : start + i < 64 := by
    simp [Pwk.records] at hi
    omega
  simp [Pwk.records, Pwk.record, hin]

end

/-! ## The commands (R96, R199) -/

section
variable {s : State} {start : Byte} {records : List (List Byte)} {rs : List PlanRecord}

theorem planWrite_fit (hfew : records.length ≤ 255) (hlengths : ∀ r ∈ records, r.length = 23) :
    operandsFit (.planWrite start records) = true := by
  simp only [operandsFit, Bool.and_eq_true, decide_eq_true_eq, List.all_eq_true, beq_iff_eq]
  exact ⟨hfew, hlengths⟩

/-- A PLAN_WRITE whose records all lie in their stored ranges (R96). -/
theorem planWrite_writes (htakes : s.Takes (.planWrite start records)) (hstopped : s.cmu.device ≠ .running)
    (hfit : operandsFit (.planWrite start records) = true) (hsome : records ≠ [])
    (hwithin : start.toNat + records.length ≤ 64) (hparsed : parseRecords records = some rs) (hfree : s.FreeReport 1) :
    exec (.planWrite start records) s = .next (State.answered ⟨6, .ok, 0, .nothing⟩
      (s.withPwk { s.pwk with plan := writeRecords start.toNat rs s.pwk.plan })) := by
  have hacts : planWriteAct start records s.frameEnded = (s.frameEnded.withPwk { s.pwk with
      plan := writeRecords start.toNat rs s.pwk.plan }).sendReply (plainReply 6 .ok) := by
    refine (if_neg hstopped).trans ((if_neg ?_).trans ?_)
    · rw [List.isEmpty_iff, not_or]
      exact ⟨hsome, by omega⟩
    · rw [hparsed]
      rfl
  exact answered_of (k := 0) (t := s.withPwk { s.pwk with plan := writeRecords start.toNat rs s.pwk.plan }) htakes hfit rfl hacts
    hfree

/-- A PLAN_WRITE refused for its count, its range or a record (R96). -/
theorem planWrite_refused (htakes : s.Takes (.planWrite start records)) (hstopped : s.cmu.device ≠ .running)
    (hfit : operandsFit (.planWrite start records) = true)
    (hbad : records = [] ∨ 64 < start.toNat + records.length ∨ parseRecords records = none) (hfree : s.FreeReport 1) :
    exec (.planWrite start records) s = .next (s.answered ⟨6, .badValue, 6, .nothing⟩) := by
  refine refused_of htakes hfit rfl ((if_neg hstopped).trans ?_) hfree
  by_cases hrange : records.isEmpty = true ∨ 64 < start.toNat + records.length
  · exact if_pos hrange
  · refine (if_neg hrange).trans ?_
    rw [not_or, List.isEmpty_iff] at hrange
    obtain ⟨hsome, hwithin⟩ := hrange
    rw [(hbad.resolve_left hsome).resolve_left hwithin]
    rfl

end

/-- Settles O49. -/
theorem planWrittenAndRead : Obligations.PlanWrittenAndRead := by
  unfold Obligations.PlanWrittenAndRead
  intro inRange refused
  have hinRange : ∀ r : PlanRecord, inRange r → r.inRange = true := fun r h => by
    cases r with
    | segment g => exact decide_eq_true h
    | photo azimuth mask => exact decide_eq_true h
    | repeatFrom target count => exact decide_eq_true h
    | planEnd => rfl
  have hrefused : ∀ r, refused r ↔ parseRecord r = none := fun r => by
    simp only [refused, parseRecord]
    generalize field r 0 1 = c
    match c with
    | 0 => simp
    | 1 => exact (segment_refused r).symm
    | 2 => simp
    | 3 => simp
    | 4 => simp
    | _ + 5 => simp
  refine ⟨fun s hfree => ⟨fun start rs htakes hstopped hsome hwithin hrange => ?_,
    fun start records htakes hstopped hfew hlengths => ⟨fun hbad => ?_, fun hsome hwithin hgood => ?_⟩,
    fun start count htakes hcount hwithin => ?_⟩, fun r hr => ⟨planRecord_length r, ?_⟩, fun start rs => ⟨?_, fun i hi => ?_⟩⟩
  · have hparsed := parseRecords_bytes fun r hr => hinRange r (hrange r hr)
    have hlengths : ∀ b ∈ rs.map (·.bytes), b.length = 23 := List.forall_mem_map.2 fun r _ => planRecord_length r
    exact ⟨_, planWrite_writes htakes hstopped (planWrite_fit (by rw [List.length_map]; omega) hlengths) (by simpa using hsome)
      (by rw [List.length_map]; omega) hparsed hfree, fun i hi => writeRecords_get rs start.toNat hi⟩
  · have hbad' : records = [] ∨ 64 < start.toNat + records.length ∨ parseRecords records = none := by
      simp only [hrefused] at hbad
      rwa [parseRecords_none]
    exact planWrite_refused htakes hstopped (planWrite_fit hfew hlengths) hbad' hfree
  · obtain ⟨rs, hparsed⟩ : ∃ rs, parseRecords records = some rs := by
      refine Option.ne_none_iff_exists'.1 fun hnone => ?_
      obtain ⟨r, hr, hbad⟩ := parseRecords_none.1 hnone
      exact hgood r hr ((hrefused r).2 hbad)
    exact ⟨_, planWrite_writes htakes hstopped (planWrite_fit hfew hlengths) hsome hwithin hparsed hfree⟩
  · have hanswer : planReadAct start count s.frameEnded = s.frameEnded.sendReply ⟨7, .ok, 0, .plan start.toNat
        ((s.pwk.plan.toList.drop start.toNat).take count.toNat)⟩ := by
      rw [← records_eq s.pwk hwithin]
      refine if_neg ?_
      rintro (rfl | hpast)
      · exact absurd hcount (by decide)
      · omega
    exact refused_of htakes rfl rfl hanswer hfree
  · cases r with
    | segment g =>
      obtain ⟨hazStart, hazEnd, hlow, hhigh, hmFrom, hmTo, hdivisor, hdivisor', hinterval, hretry, hretry'⟩ := hr
      obtain ⟨h0, h1, h4, -, h7, h10, h13, h16, h17, h18, h19, h21, h22⟩ := segment_fields g ⟨hlow, hhigh⟩
      have hmode : returnModeCode g.mode =
          match g.mode with | .first => 1 | .last => 2 | .strongest => 3 | .all => 4 := by
        cases g.mode <;> rfl
      rw [Nat.mod_eq_of_lt (by omega)] at h1 h4 h10 h13 h16 h19 h22
      rw [hmode] at h17
      simp only [List.forall_mem_cons, List.not_mem_nil, false_imp_iff, implies_true, and_true]
      exact ⟨h0, h1, h4, h7, h10, h13, h16, h17, h18, h19, h21, h22⟩
    | photo azimuth mask =>
      have hazimuth : azimuth < 2 ^ 20 := hr
      have hmask := mask.isLt
      simp [PlanRecord.bytes]
      omega
    | repeatFrom target count =>
      obtain ⟨htarget, hcount⟩ : target ≤ 63 ∧ count ≤ 255 := hr
      simp [PlanRecord.bytes]
      omega
    | planEnd => simp [PlanRecord.bytes]
  · refine hasLayout_append (first := [(2, 1, 7), (3, 1, 0), (4, 1, 0)]) (reply_layout_at ?_ ?_)
      (reply_header ⟨7, .ok, 0, .plan start rs⟩)
    · show 5 + (ReplyArgs.plan start rs).bytes.length = _
      simp only [ReplyArgs.bytes, List.length_append, le_length, flatMap_length planRecord_length]
      omega
    · simp [ReplyArgs.bytes]
  · have hbytes : (Record.reply ⟨7, .ok, 0, .plan start rs⟩).bytes =
        (Record.reply ⟨7, .ok, 0, .plan start rs⟩).bytes.take 7 ++ (rs.flatMap PlanRecord.bytes ++ []) := by
      rw [List.append_nil]
      rfl
    have hhead : ((Record.reply ⟨7, .ok, 0, .plan start rs⟩).bytes.take 7).length = 7 := rfl
    rw [hbytes, slice_append_past _ _ (by omega), hhead, Nat.add_sub_cancel_left, ← Nat.add_zero (23 * i),
      slice_flatMap planRecord_length hi [] (by omega), slice_all (planRecord_length _)]

end Sys2Proof.Proofs.Plans

/-! The report port: words taken, departures and waiters, and the pending event set of a full queue (R174 to R186, R192, R210,
R214). -/

namespace Sys2Proof.Proofs.ReportPort

open Sys2Proof.Machine Sys2Proof.Proofs.Effects Sys2Proof.Proofs.ShotPath Sys2Proof.Proofs.Layout
open Sys2Proof.Proofs.RunCommands Sys2Proof.Proofs.ReadBack

/-! ## The pending event set (R181 to R184) -/

section
variable {e : Event} {now : Nat} {events : List PendingEvent}

theorem insertEvent_ne_nil (e : Event) (now : Nat) (events : List PendingEvent) : insertEvent e now events ≠ [] := by
  cases events with
  | nil => exact List.cons_ne_nil _ _
  | cons p ps =>
    unfold insertEvent
    split
    · exact List.cons_ne_nil _ _
    · split
      · exact List.cons_ne_nil _ _
      · exact List.cons_ne_nil _ _

/-- A set in priority order stays in it (R181). -/
theorem insertEvent_pairwise (h : events.Pairwise fun x y => x.event.kind < y.event.kind) :
    (insertEvent e now events).Pairwise fun x y => x.event.kind < y.event.kind := by
  induction events with
  | nil => exact List.pairwise_singleton _ _
  | cons p ps ih =>
    obtain ⟨hfirst, hrest⟩ := List.pairwise_cons.1 h
    rw [insertEvent]
    split
    · rename_i hbefore
      exact List.pairwise_cons.2 ⟨List.forall_mem_cons.2 ⟨hbefore, fun x hx => hbefore.trans (hfirst x hx)⟩, h⟩
    · split
      · rename_i hsame
        exact List.pairwise_cons.2 ⟨fun x hx => hsame.trans_lt (hfirst x hx), hrest⟩
      · rename_i hafter hother
        exact List.pairwise_cons.2 ⟨insertEvent_head e now ps p.event.kind (by omega) hfirst, ih hrest⟩

/-- A new kind enters with count 1 (R181). -/
theorem insertEvent_new (h : ∀ x ∈ events, x.event.kind ≠ e.kind) : (insertEvent e now events).Perm (⟨e, 1, now⟩ :: events) := by
  induction events with
  | nil => exact .refl _
  | cons p ps ih =>
    obtain ⟨hp, hps⟩ := List.forall_mem_cons.1 h
    rw [insertEvent]
    split
    · exact .refl _
    · rw [if_neg (Ne.symm hp)]
      exact ((ih hps).cons p).trans (.swap _ _ _)

/-- The entry of a kind the set holds takes the new detail and time, and one more count up to 255 (R181). -/
theorem insertEvent_again {x : PendingEvent} (hsorted : events.Pairwise fun x y => x.event.kind < y.event.kind)
    (hmem : x ∈ events) (hkind : x.event.kind = e.kind) : insertEvent e now events = events.map fun y =>
      if y.event.kind = e.kind then ⟨e, if x.count < 255 then x.count + 1 else 255, now⟩ else y := by
  induction events with
  | nil => cases hmem
  | cons p ps ih =>
    obtain ⟨hfirst, hrest⟩ := List.pairwise_cons.1 hsorted
    rw [insertEvent, List.map_cons]
    rcases List.mem_cons.1 hmem with rfl | hlater
    · have hothers : ∀ y ∈ ps, ¬y.event.kind = e.kind := fun y hy h => by
        have hlt := hfirst y hy
        omega
      rw [if_neg (by omega), if_pos hkind.symm, if_pos hkind]
      exact congrArg _ ((List.map_congr_left fun y hy => if_neg (hothers y hy)).trans (List.map_id _)).symm
    · have hlt := hfirst x hlater
      rw [if_neg (by omega), if_neg (by omega), if_neg (by omega), ih hrest hlater]

theorem masks_iff {c : Settings} {kind : Nat} :
    c.masks kind = true ↔ c.eventMask.getLsbD kind = true ∧ kind ∉ [0, 1, 4, 19] := by
  simp [Settings.masks, unmaskable, and_assoc]

end

/-! ## A full queue (R177, R183) -/

section
variable {c : Settings} {now : Nat} {q : Rps} {s : State}

theorem room_full (h : q.queue.length = 2048) : q.room = false := by
  rw [Rps.room, decide_eq_false_iff_not]
  exact Nat.not_lt.2 h.ge

theorem serve_full (h : q.queue.length = 2048) : q.serve c now = q := by
  have hfull := room_full h
  unfold Rps.serve Rps.serveRounds
  split
  · rfl
  · rw [hfull, if_neg Bool.false_ne_true]

/-- One pending event fills the queue; the rest of the set waits (R183). -/
theorem serve_fills {e : PendingEvent} {later : List PendingEvent} (hevents : q.events = e :: later)
    (hlength : q.queue.length = 2047) (hthin : q.thinning = true) :
    q.serve c now = Rps.plus (.event e) { q with events := later } := by
  have hroom : q.room = true := by
    rw [Rps.room, decide_eq_true_iff, hlength]
    exact Nat.lt_succ_self 2047
  have hfull : (Rps.plus (.event e) { q with events := later }).room = false := room_full (by simp [Rps.plus, hlength])
  rw [Rps.serve, Rps.serveRounds]
  simp only [hevents, hroom, if_true]
  rw [Rps.append_free c now (.event e) { q with events := later } (.inl hthin), Rps.serveRounds]
  split
  · rfl
  · rw [hfull, if_neg Bool.false_ne_true]

/-- In THINNING a record that fills the queue enters, and the pending set waits (R177). -/
theorem enter_fills {r : Record} (hlength : s.rps.queue.length = 2047) (hthin : s.rps.thinning = true) :
    s.enter r = s.withRps (s.rps.plus r) := by
  rw [State.enter, Rps.enter, Rps.append_free _ _ _ _ (.inl hthin), serve_full (by simp [Rps.plus, hlength])]

/-- A raise that finds the queue full: dropped by the mask, or taken into the set (R181, R182). -/
theorem raise_full (e : Event) (h : s.rps.queue.length = 2048) : s.raise e =
    if s.cmu.settings.masks e.kind then s else s.withRps { s.rps with events := insertEvent e s.time s.rps.events } := by
  rw [State.raise, Rps.note]
  split
  · rw [serve_full h]
    rfl
  · rw [serve_full (q := { s.rps with events := insertEvent e s.time s.rps.events }) h]

end

/-! ## Departures (R185, R186) -/

section
variable {s : State} {r : Record} {rest : List Record}

theorem wordTaken_departs (hqueue : s.rps.queue = r :: rest) (hlast : r.wordCount ≤ s.rps.port + 1) :
    effect .reportWordTaken s =
      (s.withRps (Rps.judgeDeparture s.cmu.settings s.time { s.rps with queue := rest, port := 0 })).freeEntry := by
  have hremoved : s.rps.removeHead = { s.rps with queue := rest, port := 0 } := by
    rw [Rps.removeHead, hqueue]
    rfl
  show reportWordAct s = _
  simp only [reportWordAct, hqueue]
  rw [if_neg (by omega), State.depart, hremoved]

theorem judgeDeparture_kept {c : Settings} {now : Nat} {q : Rps}
    (h : q.thinning = true → q.queue.length ≠ c.resumeThreshold) : q.judgeDeparture c now = q :=
  if_neg fun hresumes => h hresumes.1 hresumes.2

/-- With entries left besides, nothing waits for the one that is freed. -/
theorem freeEntry_serves (hfew : s.rps.queue.length + 1 < 2048) : s.freeEntry = s.serveEvents :=
  if_neg hfew.ne

/-- THINNING ends at the resume threshold (R179, R186). -/
theorem departs_resuming (hevents : s.rps.events = []) (hthin : s.rps.thinning = true)
    (hlength : rest.length = s.cmu.settings.resumeThreshold) (hfew : rest.length + 1 < 2048)
    (hgap : s.cmu.settings.resumeThreshold + 1 < s.cmu.settings.thinThreshold) :
    (s.withRps (Rps.judgeDeparture s.cmu.settings s.time { s.rps with queue := rest, port := 0 })).freeEntry =
      s.withRps (Rps.plusEvent s.cmu.settings s.time (.thinningOff rest.length)
        { s.rps with queue := rest, port := 0, thinning := false }) := by
  have hjudged : Rps.judgeDeparture s.cmu.settings s.time { s.rps with queue := rest, port := 0 } =
      Rps.note s.cmu.settings s.time (.thinningOff rest.length) { s.rps with queue := rest, port := 0, thinning := false } :=
    if_pos ⟨hthin, hlength⟩
  have hsame : ∀ e (q : Rps), (Rps.note s.cmu.settings s.time e q).queue = q.queue := fun e q => by
    unfold Rps.note
    split <;> rfl
  have hbelow : rest.length + 1 < s.cmu.settings.thinThreshold := by
    rw [hlength]
    exact hgap
  have hraised := State.raise_free (k := 0) (.thinningOff rest.length)
    (s := s.withRps { s.rps with queue := rest, port := 0, thinning := false }) ⟨hevents, hfew.le, .inr hbelow⟩
  rw [hjudged, freeEntry_serves]
  · exact hraised
  · rw [State.withRps_rps, hsame]
    exact hfew

/-- The report stream whose freed entry a record has taken. -/
def refilled (rest : List Record) (x : Record) (q : Rps) : Rps := { q with queue := rest ++ [x], port := 0 }

/-- The part whose full queue has lost its head. -/
def freed (rest : List Record) (s : State) : State := s.withRps { s.rps with queue := rest, port := 0 }

theorem freed_plus (x : Record) : (freed rest s).rps.plus x = refilled rest x s.rps := by
  rw [Rps.plus, freed, State.withRps_rps, ite_self]
  rfl

theorem departs_full (hlength : rest.length + 1 = 2048) (hgap : s.cmu.settings.resumeThreshold < 2047) :
    s.withRps (Rps.judgeDeparture s.cmu.settings s.time { s.rps with queue := rest, port := 0 }) = freed rest s := by
  rw [judgeDeparture_kept fun _ => ?_]
  · rfl
  · show rest.length ≠ s.cmu.settings.resumeThreshold
    omega

theorem enter_freed (x : Record) (hlength : rest.length + 1 = 2048) (hthin : s.rps.thinning = true) :
    (freed rest s).enter x = s.withRps (refilled rest x s.rps) := by
  rw [enter_fills (s := freed rest s) (by show rest.length = 2047; omega) hthin, freed_plus]
  rfl

/-- The freed entry goes to the first that waits (R177). -/
theorem freeEntry_reply {x : Reply} (hfull : s.rps.queue.length + 1 = 2048) (hreply : s.cmu.reply = some x) :
    s.freeEntry = s.admitReply x := by
  refine (if_pos hfull).trans ?_
  rw [hreply]

theorem freeEntry_walker {x : Record} (hfull : s.rps.queue.length + 1 = 2048) (hreply : s.cmu.reply = none)
    (hout : s.pwk.outgoing = some x) : s.freeEntry = s.admitWalker x := by
  refine (if_pos hfull).trans ?_
  rw [hreply, hout]

theorem freeEntry_photo {p : Photo} {more : List Photo} (hfull : s.rps.queue.length + 1 = 2048)
    (hreply : s.cmu.reply = none) (hout : s.pwk.outgoing = none) (hphotos : s.phc.outgoing = p :: more) :
    s.freeEntry = s.admitPhoto p more := by
  refine (if_pos hfull).trans ?_
  rw [hreply, hout, hphotos]

theorem freeEntry_events (hfull : s.rps.queue.length + 1 = 2048)
    (hreply : s.cmu.reply = none) (hout : s.pwk.outgoing = none) (hphotos : s.phc.outgoing = []) :
    s.freeEntry = s.serveEvents := by
  refine (if_pos hfull).trans ?_
  rw [hreply, hout, hphotos]

end

/-- Settles O44. -/
theorem reportWordTaken : Obligations.ReportWordTaken := by
  refine ⟨fun s hp => ⟨fun hempty => ⟨exec_next hp ?_, ?_, ?_⟩, fun r rest hqueue => ⟨⟨?_, ?_⟩, fun hmore => exec_next hp ?_,
    fun hlast hevents => ⟨fun hfew hkept => exec_next hp ?_, fun hfew hthin hresume hgap => exec_next hp ?_⟩, ?_⟩⟩,
    fun s expiry hp hok habsence hle hrunning => exec_next hp ?_, ?_, ?_⟩
  · show reportWordAct s = s
    simp only [reportWordAct, hempty]
  · simp [Rps.valid, hempty]
  · simp [Rps.data, hempty]
  · simp [Rps.valid, hqueue]
  · have hlow := (r.bytes.getD (2 * s.rps.port) 0).isLt
    have hhigh := (r.bytes.getD (2 * s.rps.port + 1) 0).isLt
    simp only [Rps.data, hqueue, Record.word, BitVec.toNat_ofNat]
    omega
  · show reportWordAct s = _
    simp only [reportWordAct, hqueue]
    exact if_pos hmore
  · rw [wordTaken_departs hqueue hlast, judgeDeparture_kept hkept, freeEntry_serves hfew]
    exact congrArg (fun q => s.withRps q) (Rps.serve_nil _ _ _ hevents)
  · rw [wordTaken_departs hqueue hlast]
    exact departs_resuming hevents hthin hresume hfew hgap
  · intro hlast hlength hthin hgap entered
    have hacts : effect .reportWordTaken s = (freed rest s).freeEntry := by
      rw [wordTaken_departs hqueue hlast, departs_full hlength hgap]
    refine ⟨fun reply hreply => exec_next hp (hacts.trans ((freeEntry_reply (s := freed rest s) hlength hreply).trans ?_)),
      fun x hreply hout hnone => exec_next hp (hacts.trans ((freeEntry_walker (s := freed rest s) hlength hreply hout).trans ?_)),
      fun p q more hreply hout hphotos => exec_next hp (hacts.trans ((freeEntry_photo (s := freed rest s) hlength hreply hout hphotos).trans ?_)),
      fun e later hreply hout hphotos hevents =>
        exec_next hp (hacts.trans ((freeEntry_events (s := freed rest s) hlength hreply hout hphotos).trans ?_))⟩
    · rw [State.admitReply, enter_freed _ hlength hthin]
      rfl
    · rw [State.admitWalker, enter_freed _ hlength hthin]
      exact runDeferred_none hnone
    · rw [State.admitPhoto, enter_freed _ hlength hthin]
      exact if_neg fun h => Bool.false_ne_true h.2
    · have hserved := serve_fills (c := s.cmu.settings) (now := s.time) (q := (freed rest s).rps) hevents
        (by show rest.length = 2047; omega) hthin
      rw [Rps.plus, freed, State.withRps_rps, ite_self] at hserved
      exact congrArg (fun q => s.withRps q) hserved
  · refine (if_pos ⟨hok, due_of habsence hle⟩).trans ?_
    exact if_pos hrunning
  · intro s e hfull dropped
    have hraised := raise_full e hfull
    refine ⟨fun hdropped => ?_, fun hkept => ⟨insertEvent e s.time s.rps.events, ?_⟩⟩
    · rw [hraised, if_pos (masks_iff.2 hdropped)]
    · rw [if_neg (mt masks_iff.1 hkept)] at hraised
      refine ⟨hraised, ?_, fun hsorted => ⟨insertEvent_pairwise hsorted, insertEvent_new, fun x hx hkind =>
        insertEvent_again hsorted hx hkind⟩⟩
      rw [hraised]
      show (!(insertEvent e s.time s.rps.events).isEmpty) = true
      rw [Bool.not_eq_true', List.isEmpty_eq_false_iff]
      exact insertEvent_ne_nil _ _ _
  · intro e kind detail membership h
    have hmembership : membershipCode = membership := funext membershipCode_eq
    rw [← hmembership] at h
    clear_value membership
    subst hmembership
    obtain ⟨event, count, time⟩ := e
    have hname : ∀ {kind' : Nat} {detail' : List (Nat × Nat × Nat)}, (kind, detail) = (kind', detail') →
        event.kind = kind' → event.detail.length ≤ 12 → (∀ f ∈ detail', f.1 + f.2.1 ≤ event.detail.length ∧
          field event.detail f.1 f.2.1 = f.2.2 % 256 ^ f.2.1) → event.kind = kind ∧
          (Record.event ⟨event, count, time⟩).HasLayout 6 22
            ([(2, 1, kind), (3, 1, count), (4, 6, time)] ++ detail.map fun f => (10 + f.1, f.2.1, f.2.2)) := by
      intro kind' detail' hrow hkind hlength hdetail
      obtain ⟨rfl, rfl⟩ := Prod.mk.inj hrow
      subst hkind
      exact ⟨rfl, event_layout hlength hdetail⟩
    cases event with
    | mirrorFault cause period => exact hname h rfl (by simp [Event.detail, le_length]) (by cases cause <;> simp [Event.detail, le_length])
    | duplicateStation own frame spoken =>
      exact hname h rfl (by simp [Event.detail, le_length]) (by cases frame <;> simp [Event.detail, le_length, frameKindCode])
    | peerHold station on source =>
      exact hname h rfl (by simp [Event.detail, le_length]) (by cases source <;> simp [Event.detail, le_length])
    | peerLost station cause =>
      exact hname h rfl (by simp [Event.detail, le_length]) (by cases cause <;> simp [Event.detail, le_length])
    | quietClosed station cause =>
      exact hname h rfl (by simp [Event.detail, le_length]) (by cases cause <;> simp [Event.detail, le_length])
    | echoSlip cause tag =>
      exact hname h rfl (by simp [Event.detail, le_length]) (by cases cause <;> simp [Event.detail, le_length])
    | calRowBad row cause =>
      exact hname h rfl (by simp [Event.detail, le_length]) (by cases cause <;> simp [Event.detail, le_length])
    | resetCause cause row =>
      exact hname h rfl (by simp [Event.detail, le_length])
        (by cases cause <;> simp [Event.detail, le_length, resetCauseCode])
    | lineJammed hold quiet beacon =>
      exact hname h rfl (by simp [Event.detail, le_length, flagsByte_eq])
        (by simp [Event.detail, le_length, flagsByte_eq]; omega)
    | _ => exact hname h rfl (by simp [Event.detail, le_length]) (by simp [Event.detail, le_length])

end Sys2Proof.Proofs.ReportPort
